-- ==== Sys2Proof/Word.lean ====
section
/-! DEFINITION. The widths of the machine's words. -/

namespace Sys2Proof

/-- One 32-bit word of the register space (20_memory.md R37). -/
abbrev Word := BitVec 32

/-- The transaction word `X`, 41 bits (30_encoding.md R50). -/
abbrev Txn := BitVec 41

/-- A CRC register value or table entry: 15 bits (10_state.md R10, R13). -/
abbrev Crc15 := BitVec 15

/-- The byte offset of a register in the block's window (30_encoding.md R50). -/
abbrev Offset := BitVec 8

/-- The lookup table: 256 entries of 15 bits, indexed by a byte (10_state.md R13). -/
abbrev Table := Vector Crc15 256

end Sys2Proof
end

