-- ==== Sys2Proof/Config.lean ====
section
/-! DEFINITION. The constants the source fixes, the parameters an implementation chooses, and the
free values. A free value has no body, so nothing about it can be proved (00_scope.md R6, R7). -/

namespace Sys2Proof

/-- Whose step comes next: one of the agents of 10_state.md R22, or the event `Reset`
(70_reset_and_hazards.md R190), which may fall between any two steps. -/
inductive Turn where
  | host
  | eng
  | wrk (w : Nat)
  | reset
deriving DecidableEq, Repr, Inhabited

namespace Config

/-- `POLY` (00_scope.md R6). -/
def poly : Crc15 := 0x4599#15

/-- `TOPBIT` (00_scope.md R6). -/
def topBit : Nat := 14

/-- `SEED_SHIFT` (00_scope.md R6). -/
def seedShift : Nat := 7

/-- `MAX_BITS` (00_scope.md R6). -/
def maxBits : Nat := 96

/-- `MAX_BYTES` (00_scope.md R6). -/
def maxBytes : Nat := 12

/-- `ITER_MIN` (00_scope.md R6). -/
def iterMin : Nat := 1

/-- `ITER_MAX` (00_scope.md R6). -/
def iterMax : Nat := 1000000000

/-- `PAR_THRESHOLD` (00_scope.md R6). -/
def parThreshold : Nat := 100000

/-- `MAX_REPORT` (00_scope.md R6). -/
def maxReport : Nat := 5

/-- The largest admitted `NUM_WORKERS` (00_scope.md R7). -/
def maxWorkers : Nat := 65535

/-- The free parameter behind `NUM_WORKERS`: the number of workers less one, 0 to 65534.
Log entry 1. -/
opaque workersLessOne : Fin 65535

/-- `NUM_WORKERS`, written `W`: any number from 1 to 65535, fixed for the life of the hardware
(00_scope.md R7). -/
def numWorkers : Nat := workersLessOne.val + 1

/-- `ELAPSED_UNIT`: a name no rule reads (00_scope.md R7). Log entry 6. -/
opaque elapsedUnit : String

/-- The draw that the completion of `RUN_BATCH` writes to `ELAPSED` (43_batch_runner.md R131).
Log entry 6. -/
opaque elapsedDraw : Nat → BitVec 64

/-- The draw that a read of `CRC` returns while `BUSY == 1` (44_host_interface.md R156).
Log entry 7. -/
opaque busyCrcDraw : Nat → Word

/-- Whose turn it is once `State.turns` is used up (00_scope.md R7, 20_memory.md R41).
Log entry 2. -/
opaque schedule : Nat → Turn

end Config

end Sys2Proof
end

