-- ==== Sys2Proof/Syntax.lean ====
section
/-! DEFINITION. The syntax: the 51 classes of the transaction word, one constructor for each row of
spec/opcode_table.json. -/

namespace Sys2Proof

/-- The 14 registers of the register space (20_memory.md R38). -/
inductive Reg where
  | ctrl | status | len | iterLo | iterHi | data0 | data1 | data2 | crc | elapsedLo | elapsedHi
  | nWorkers | tblIdx | tblData
deriving DecidableEq, Repr

/-- The direction bit `rw` of a transaction (30_encoding.md R50). -/
inductive Dir where
  | read
  | write
deriving DecidableEq, Repr

/-- The instructions. A `CTRL` write keeps the 28 bits its code leaves over (`ignored`); a register
write keeps its whole 32-bit datum; a read carries nothing, since its data field is ignored
(30_encoding.md R50, R51). A reserved or misaligned transaction keeps its offset. -/
inductive Instr where
  /-- `RESERVED_OP_0` (30_encoding.md R56). -/
  | reservedOp0 (ignored : BitVec 28)
  /-- `CRC_REF` (42_crc_engine.md R102). -/
  | crcRef (ignored : BitVec 28)
  /-- `CRC_FAST` (42_crc_engine.md R103). -/
  | crcFast (ignored : BitVec 28)
  /-- `RUN_BATCH` (43_batch_runner.md R120). -/
  | runBatch (ignored : BitVec 28)
  /-- `TBL_BUILD` (41_crc_table.md R91). -/
  | tblBuild (ignored : BitVec 28)
  /-- `RESERVED_OP_5` (30_encoding.md R56). -/
  | reservedOp5 (ignored : BitVec 28)
  /-- `RESERVED_OP_6` (30_encoding.md R56). -/
  | reservedOp6 (ignored : BitVec 28)
  /-- `RESERVED_OP_7` (30_encoding.md R56). -/
  | reservedOp7 (ignored : BitVec 28)
  /-- `RESERVED_OP_8` (30_encoding.md R56). -/
  | reservedOp8 (ignored : BitVec 28)
  /-- `RESERVED_OP_9` (30_encoding.md R56). -/
  | reservedOp9 (ignored : BitVec 28)
  /-- `RESERVED_OP_A` (30_encoding.md R56). -/
  | reservedOpA (ignored : BitVec 28)
  /-- `RESERVED_OP_B` (30_encoding.md R56). -/
  | reservedOpB (ignored : BitVec 28)
  /-- `RESERVED_OP_C` (30_encoding.md R56). -/
  | reservedOpC (ignored : BitVec 28)
  /-- `RESERVED_OP_D` (30_encoding.md R56). -/
  | reservedOpD (ignored : BitVec 28)
  /-- `RESERVED_OP_E` (30_encoding.md R56). -/
  | reservedOpE (ignored : BitVec 28)
  /-- `RESERVED_OP_F` (30_encoding.md R56). -/
  | reservedOpF (ignored : BitVec 28)
  /-- `WR_LEN` (44_host_interface.md R144). -/
  | wrLen (v : Word)
  /-- `WR_ITER_LO` (44_host_interface.md R145). -/
  | wrIterLo (v : Word)
  /-- `WR_ITER_HI` (44_host_interface.md R146). -/
  | wrIterHi (v : Word)
  /-- `WR_DATA0` (44_host_interface.md R147). -/
  | wrData0 (v : Word)
  /-- `WR_DATA1` (44_host_interface.md R147). -/
  | wrData1 (v : Word)
  /-- `WR_DATA2` (44_host_interface.md R147). -/
  | wrData2 (v : Word)
  /-- `WR_TBL_IDX` (44_host_interface.md R148). -/
  | wrTblIdx (v : Word)
  /-- `WR_STATUS` (44_host_interface.md R159). -/
  | wrStatus (v : Word)
  /-- `WR_CRC` (44_host_interface.md R159). -/
  | wrCrc (v : Word)
  /-- `WR_ELAPSED_LO` (44_host_interface.md R159). -/
  | wrElapsedLo (v : Word)
  /-- `WR_ELAPSED_HI` (44_host_interface.md R159). -/
  | wrElapsedHi (v : Word)
  /-- `WR_NWORKERS` (44_host_interface.md R159). -/
  | wrNWorkers (v : Word)
  /-- `WR_TBL_DATA` (44_host_interface.md R159). -/
  | wrTblData (v : Word)
  /-- `RD_CTRL` (44_host_interface.md R141). -/
  | rdCtrl
  /-- `RD_STATUS` (44_host_interface.md R142). -/
  | rdStatus
  /-- `RD_LEN` (44_host_interface.md R143). -/
  | rdLen
  /-- `RD_ITER_LO` (44_host_interface.md R143). -/
  | rdIterLo
  /-- `RD_ITER_HI` (44_host_interface.md R143). -/
  | rdIterHi
  /-- `RD_DATA0` (44_host_interface.md R143). -/
  | rdData0
  /-- `RD_DATA1` (44_host_interface.md R143). -/
  | rdData1
  /-- `RD_DATA2` (44_host_interface.md R143). -/
  | rdData2
  /-- `RD_CRC` (44_host_interface.md R155). -/
  | rdCrc
  /-- `RD_ELAPSED_LO` (44_host_interface.md R157). -/
  | rdElapsedLo
  /-- `RD_ELAPSED_HI` (44_host_interface.md R157). -/
  | rdElapsedHi
  /-- `RD_NWORKERS` (44_host_interface.md R158). -/
  | rdNWorkers
  /-- `RD_TBL_IDX` (44_host_interface.md R143). -/
  | rdTblIdx
  /-- `RD_TBL_DATA` (44_host_interface.md R149). -/
  | rdTblData
  /-- `RD_RESERVED_0x38_0x3C` (44_host_interface.md R160). -/
  | rdReserved38 (off : Offset)
  /-- `RD_RESERVED_0x40_0x7C` (44_host_interface.md R160). -/
  | rdReserved40 (off : Offset)
  /-- `RD_RESERVED_0x80_0xFC` (44_host_interface.md R160). -/
  | rdReserved80 (off : Offset)
  /-- `WR_RESERVED_0x38_0x3C` (44_host_interface.md R160). -/
  | wrReserved38 (off : Offset) (v : Word)
  /-- `WR_RESERVED_0x40_0x7C` (44_host_interface.md R160). -/
  | wrReserved40 (off : Offset) (v : Word)
  /-- `WR_RESERVED_0x80_0xFC` (44_host_interface.md R160). -/
  | wrReserved80 (off : Offset) (v : Word)
  /-- `MISALIGNED_ODD` (20_memory.md R36). -/
  | misalignedOdd (dir : Dir) (off : Offset) (data : Word)
  /-- `MISALIGNED_HALF` (20_memory.md R36). -/
  | misalignedHalf (dir : Dir) (off : Offset) (data : Word)
deriving DecidableEq, Repr

end Sys2Proof
end

