-- ==== Sys2Proof/WellFormed.lean ====
section
/-! DEFINITION. Which terms of `Instr` stand for a transaction word: the offset of a reserved or
misaligned transaction lies in its row's class, and a read's data field is 0. -/

namespace Sys2Proof

/-- Offsets of the row `0x38_0x3C` (20_memory.md R38; the row's mask leaves bit 2 free). -/
def Offset.inClass38 (off : Offset) : Bool :=
  off == 0x38#8 || off == 0x3C#8

/-- Aligned offsets of the row `0x40_0x7C`: bits 7:6 are 01. -/
def Offset.inClass40 (off : Offset) : Bool :=
  off.extractLsb' 0 2 == 0#2 && off.extractLsb' 6 2 == 1#2

/-- Aligned offsets of the row `0x80_0xFC`: bit 7 is 1. -/
def Offset.inClass80 (off : Offset) : Bool :=
  off.extractLsb' 0 2 == 0#2 && off.extractLsb' 7 1 == 1#1

/-- Offsets of the row `MISALIGNED_ODD`: bit 0 is 1. -/
def Offset.inClassOdd (off : Offset) : Bool :=
  off.extractLsb' 0 1 == 1#1

/-- Offsets of the row `MISALIGNED_HALF`: bits 1:0 are 10. -/
def Offset.inClassHalf (off : Offset) : Bool :=
  off.extractLsb' 0 2 == 2#2

/-- The data field a transaction may carry: a read's "must be encoded as 0" (30_encoding.md R50). -/
def Dir.admits : Dir → Word → Bool
  | .read, data => data == 0#32
  | .write, _ => true

/-- Whether an instruction stands for a transaction word. -/
def Instr.wellFormed : Instr → Bool
  | .rdReserved38 off => Offset.inClass38 off
  | .rdReserved40 off => Offset.inClass40 off
  | .rdReserved80 off => Offset.inClass80 off
  | .wrReserved38 off _ => Offset.inClass38 off
  | .wrReserved40 off _ => Offset.inClass40 off
  | .wrReserved80 off _ => Offset.inClass80 off
  | .misalignedOdd dir off data => Offset.inClassOdd off && dir.admits data
  | .misalignedHalf dir off data => Offset.inClassHalf off && dir.admits data
  | .reservedOp0 _ => true
  | .crcRef _ => true
  | .crcFast _ => true
  | .runBatch _ => true
  | .tblBuild _ => true
  | .reservedOp5 _ => true
  | .reservedOp6 _ => true
  | .reservedOp7 _ => true
  | .reservedOp8 _ => true
  | .reservedOp9 _ => true
  | .reservedOpA _ => true
  | .reservedOpB _ => true
  | .reservedOpC _ => true
  | .reservedOpD _ => true
  | .reservedOpE _ => true
  | .reservedOpF _ => true
  | .wrLen _ => true
  | .wrIterLo _ => true
  | .wrIterHi _ => true
  | .wrData0 _ => true
  | .wrData1 _ => true
  | .wrData2 _ => true
  | .wrTblIdx _ => true
  | .wrStatus _ => true
  | .wrCrc _ => true
  | .wrElapsedLo _ => true
  | .wrElapsedHi _ => true
  | .wrNWorkers _ => true
  | .wrTblData _ => true
  | .rdCtrl => true
  | .rdStatus => true
  | .rdLen => true
  | .rdIterLo => true
  | .rdIterHi => true
  | .rdData0 => true
  | .rdData1 => true
  | .rdData2 => true
  | .rdCrc => true
  | .rdElapsedLo => true
  | .rdElapsedHi => true
  | .rdNWorkers => true
  | .rdTblIdx => true
  | .rdTblData => true

/-- An instruction that stands for a transaction word. -/
abbrev WellFormed (i : Instr) : Prop := i.wellFormed = true

end Sys2Proof
end

