-- ==== Sys2Proof/Decode.lean ====
section
/-! DEFINITION. The decoder, total over the 41-bit transaction word, the encoder written from the same
formats (30_encoding.md R50, R51, R55), and the rows of spec/opcode_table.json. -/

namespace Sys2Proof

/-- The register offsets (20_memory.md R38). -/
def Reg.offset : Reg → Offset
  | .ctrl => 0x00#8
  | .status => 0x04#8
  | .len => 0x08#8
  | .iterLo => 0x0C#8
  | .iterHi => 0x10#8
  | .data0 => 0x14#8
  | .data1 => 0x18#8
  | .data2 => 0x1C#8
  | .crc => 0x20#8
  | .elapsedLo => 0x24#8
  | .elapsedHi => 0x28#8
  | .nWorkers => 0x2C#8
  | .tblIdx => 0x30#8
  | .tblData => 0x34#8

/-- The register at an offset, if there is one (20_memory.md R38). -/
def regAt (off : Offset) : Option Reg :=
  match off.toNat with
  | 0x00 => some .ctrl
  | 0x04 => some .status
  | 0x08 => some .len
  | 0x0C => some .iterLo
  | 0x10 => some .iterHi
  | 0x14 => some .data0
  | 0x18 => some .data1
  | 0x1C => some .data2
  | 0x20 => some .crc
  | 0x24 => some .elapsedLo
  | 0x28 => some .elapsedHi
  | 0x2C => some .nWorkers
  | 0x30 => some .tblIdx
  | 0x34 => some .tblData
  | _ => none

/-- The direction bit's value: 0 read, 1 write (30_encoding.md R50). -/
def Dir.bit : Dir → BitVec 1
  | .read => 0#1
  | .write => 1#1

/-- The transaction word `X = (rw << 40) | (off << 32) | data` (30_encoding.md R50, R64). -/
def Txn.mk (dir : Dir) (off : Offset) (data : Word) : Txn :=
  (dir.bit ++ off ++ data : BitVec 41)

/-- Bit 40 of `X`. -/
def Txn.dir (x : Txn) : Dir :=
  if x.getLsbD 40 then .write else .read

/-- Bits 39:32 of `X`. -/
def Txn.off (x : Txn) : Offset :=
  x.extractLsb' 32 8

/-- Bits 31:0 of `X`. -/
def Txn.data (x : Txn) : Word :=
  x.extractLsb' 0 32

/-- A `CTRL` write: `data[3:0]` is the command code and `data[31:4]` is ignored (30_encoding.md R51,
R55, R56). -/
def decodeCommand (data : Word) : Instr :=
  let ignored := data.extractLsb' 4 28
  match (data.extractLsb' 0 4).toNat with
  | 0x0 => .reservedOp0 ignored
  | 0x1 => .crcRef ignored
  | 0x2 => .crcFast ignored
  | 0x3 => .runBatch ignored
  | 0x4 => .tblBuild ignored
  | 0x5 => .reservedOp5 ignored
  | 0x6 => .reservedOp6 ignored
  | 0x7 => .reservedOp7 ignored
  | 0x8 => .reservedOp8 ignored
  | 0x9 => .reservedOp9 ignored
  | 0xA => .reservedOpA ignored
  | 0xB => .reservedOpB ignored
  | 0xC => .reservedOpC ignored
  | 0xD => .reservedOpD ignored
  | 0xE => .reservedOpE ignored
  | _ => .reservedOpF ignored

/-- A write at an aligned offset. -/
def decodeWrite (off : Offset) (data : Word) : Instr :=
  match regAt off with
  | some .ctrl => decodeCommand data
  | some .status => .wrStatus data
  | some .len => .wrLen data
  | some .iterLo => .wrIterLo data
  | some .iterHi => .wrIterHi data
  | some .data0 => .wrData0 data
  | some .data1 => .wrData1 data
  | some .data2 => .wrData2 data
  | some .crc => .wrCrc data
  | some .elapsedLo => .wrElapsedLo data
  | some .elapsedHi => .wrElapsedHi data
  | some .nWorkers => .wrNWorkers data
  | some .tblIdx => .wrTblIdx data
  | some .tblData => .wrTblData data
  | none =>
    if off.toNat < 0x40 then .wrReserved38 off data
    else if off.toNat < 0x80 then .wrReserved40 off data
    else .wrReserved80 off data

/-- A read at an aligned offset; the data field is ignored (30_encoding.md R50). -/
def decodeRead (off : Offset) : Instr :=
  match regAt off with
  | some .ctrl => .rdCtrl
  | some .status => .rdStatus
  | some .len => .rdLen
  | some .iterLo => .rdIterLo
  | some .iterHi => .rdIterHi
  | some .data0 => .rdData0
  | some .data1 => .rdData1
  | some .data2 => .rdData2
  | some .crc => .rdCrc
  | some .elapsedLo => .rdElapsedLo
  | some .elapsedHi => .rdElapsedHi
  | some .nWorkers => .rdNWorkers
  | some .tblIdx => .rdTblIdx
  | some .tblData => .rdTblData
  | none =>
    if off.toNat < 0x40 then .rdReserved38 off
    else if off.toNat < 0x80 then .rdReserved40 off
    else .rdReserved80 off

/-- The data field a decoded transaction keeps: none of a read's (30_encoding.md R50). -/
def Dir.keeps : Dir → Word → Word
  | .read, _ => 0#32
  | .write, data => data

/-- The instruction a transaction word stands for. Every word stands for one (30_encoding.md R66). -/
def decode (x : Txn) : Instr :=
  if x.off.getLsbD 0 then .misalignedOdd x.dir x.off (x.dir.keeps x.data)
  else if x.off.getLsbD 1 then .misalignedHalf x.dir x.off (x.dir.keeps x.data)
  else
    match x.dir with
    | .read => decodeRead x.off
    | .write => decodeWrite x.off x.data

/-- Why a number is no transaction word. -/
inductive DecodeRefusal where
  /-- The number has a bit at or above bit 41: all transactions have the one length
  (30_encoding.md R50, R62). -/
  | widerThanOneTransaction
deriving DecidableEq, Repr

/-- Decoding from any number: a number of more than 41 bits is rejected by name. -/
def decodeNat (w : Nat) : Except DecodeRefusal Instr :=
  if w < 2 ^ 41 then .ok (decode (BitVec.ofNat 41 w)) else .error .widerThanOneTransaction

/-- The instruction the decoder reads from the low `nbits` bits of `w`, numbered as
spec/opcode_table.json numbers them. -/
def decodeTableWord (nbits w : Nat) : Option Instr :=
  match decodeNat (w % 2 ^ nbits) with
  | .ok i => some i
  | .error _ => none

/-- The datum of a `CTRL` write: the command code below the ignored bits (30_encoding.md R51). -/
def ctrlData (ignored : BitVec 28) (code : BitVec 4) : Word :=
  (ignored ++ code : BitVec 32)

/-- The transaction word of an instruction. -/
def encode : Instr → Txn
  | .reservedOp0 ignored => Txn.mk .write Reg.ctrl.offset (ctrlData ignored 0x0#4)
  | .crcRef ignored => Txn.mk .write Reg.ctrl.offset (ctrlData ignored 0x1#4)
  | .crcFast ignored => Txn.mk .write Reg.ctrl.offset (ctrlData ignored 0x2#4)
  | .runBatch ignored => Txn.mk .write Reg.ctrl.offset (ctrlData ignored 0x3#4)
  | .tblBuild ignored => Txn.mk .write Reg.ctrl.offset (ctrlData ignored 0x4#4)
  | .reservedOp5 ignored => Txn.mk .write Reg.ctrl.offset (ctrlData ignored 0x5#4)
  | .reservedOp6 ignored => Txn.mk .write Reg.ctrl.offset (ctrlData ignored 0x6#4)
  | .reservedOp7 ignored => Txn.mk .write Reg.ctrl.offset (ctrlData ignored 0x7#4)
  | .reservedOp8 ignored => Txn.mk .write Reg.ctrl.offset (ctrlData ignored 0x8#4)
  | .reservedOp9 ignored => Txn.mk .write Reg.ctrl.offset (ctrlData ignored 0x9#4)
  | .reservedOpA ignored => Txn.mk .write Reg.ctrl.offset (ctrlData ignored 0xA#4)
  | .reservedOpB ignored => Txn.mk .write Reg.ctrl.offset (ctrlData ignored 0xB#4)
  | .reservedOpC ignored => Txn.mk .write Reg.ctrl.offset (ctrlData ignored 0xC#4)
  | .reservedOpD ignored => Txn.mk .write Reg.ctrl.offset (ctrlData ignored 0xD#4)
  | .reservedOpE ignored => Txn.mk .write Reg.ctrl.offset (ctrlData ignored 0xE#4)
  | .reservedOpF ignored => Txn.mk .write Reg.ctrl.offset (ctrlData ignored 0xF#4)
  | .wrLen v => Txn.mk .write Reg.len.offset v
  | .wrIterLo v => Txn.mk .write Reg.iterLo.offset v
  | .wrIterHi v => Txn.mk .write Reg.iterHi.offset v
  | .wrData0 v => Txn.mk .write Reg.data0.offset v
  | .wrData1 v => Txn.mk .write Reg.data1.offset v
  | .wrData2 v => Txn.mk .write Reg.data2.offset v
  | .wrTblIdx v => Txn.mk .write Reg.tblIdx.offset v
  | .wrStatus v => Txn.mk .write Reg.status.offset v
  | .wrCrc v => Txn.mk .write Reg.crc.offset v
  | .wrElapsedLo v => Txn.mk .write Reg.elapsedLo.offset v
  | .wrElapsedHi v => Txn.mk .write Reg.elapsedHi.offset v
  | .wrNWorkers v => Txn.mk .write Reg.nWorkers.offset v
  | .wrTblData v => Txn.mk .write Reg.tblData.offset v
  | .rdCtrl => Txn.mk .read Reg.ctrl.offset 0#32
  | .rdStatus => Txn.mk .read Reg.status.offset 0#32
  | .rdLen => Txn.mk .read Reg.len.offset 0#32
  | .rdIterLo => Txn.mk .read Reg.iterLo.offset 0#32
  | .rdIterHi => Txn.mk .read Reg.iterHi.offset 0#32
  | .rdData0 => Txn.mk .read Reg.data0.offset 0#32
  | .rdData1 => Txn.mk .read Reg.data1.offset 0#32
  | .rdData2 => Txn.mk .read Reg.data2.offset 0#32
  | .rdCrc => Txn.mk .read Reg.crc.offset 0#32
  | .rdElapsedLo => Txn.mk .read Reg.elapsedLo.offset 0#32
  | .rdElapsedHi => Txn.mk .read Reg.elapsedHi.offset 0#32
  | .rdNWorkers => Txn.mk .read Reg.nWorkers.offset 0#32
  | .rdTblIdx => Txn.mk .read Reg.tblIdx.offset 0#32
  | .rdTblData => Txn.mk .read Reg.tblData.offset 0#32
  | .rdReserved38 off => Txn.mk .read off 0#32
  | .rdReserved40 off => Txn.mk .read off 0#32
  | .rdReserved80 off => Txn.mk .read off 0#32
  | .wrReserved38 off v => Txn.mk .write off v
  | .wrReserved40 off v => Txn.mk .write off v
  | .wrReserved80 off v => Txn.mk .write off v
  | .misalignedOdd dir off data => Txn.mk dir off data
  | .misalignedHalf dir off data => Txn.mk dir off data

/-- A row of spec/opcode_table.json: a word `X` belongs to it when `X & mask == pattern`
(30_encoding.md R66). -/
structure Row where
  mnemonic : String
  pattern  : Txn
  mask     : Txn
deriving DecidableEq, Repr

/-- Whether a word belongs to a row (30_encoding.md R66). -/
def Row.covers (row : Row) (x : Txn) : Bool :=
  x &&& row.mask == row.pattern

/-- The row each instruction was written from. -/
def Instr.row : Instr → Row
  | .reservedOp0 _ => ⟨"RESERVED_OP_0", 0x10000000000#41, 0x1FF0000000F#41⟩
  | .crcRef _ => ⟨"CRC_REF", 0x10000000001#41, 0x1FF0000000F#41⟩
  | .crcFast _ => ⟨"CRC_FAST", 0x10000000002#41, 0x1FF0000000F#41⟩
  | .runBatch _ => ⟨"RUN_BATCH", 0x10000000003#41, 0x1FF0000000F#41⟩
  | .tblBuild _ => ⟨"TBL_BUILD", 0x10000000004#41, 0x1FF0000000F#41⟩
  | .reservedOp5 _ => ⟨"RESERVED_OP_5", 0x10000000005#41, 0x1FF0000000F#41⟩
  | .reservedOp6 _ => ⟨"RESERVED_OP_6", 0x10000000006#41, 0x1FF0000000F#41⟩
  | .reservedOp7 _ => ⟨"RESERVED_OP_7", 0x10000000007#41, 0x1FF0000000F#41⟩
  | .reservedOp8 _ => ⟨"RESERVED_OP_8", 0x10000000008#41, 0x1FF0000000F#41⟩
  | .reservedOp9 _ => ⟨"RESERVED_OP_9", 0x10000000009#41, 0x1FF0000000F#41⟩
  | .reservedOpA _ => ⟨"RESERVED_OP_A", 0x1000000000A#41, 0x1FF0000000F#41⟩
  | .reservedOpB _ => ⟨"RESERVED_OP_B", 0x1000000000B#41, 0x1FF0000000F#41⟩
  | .reservedOpC _ => ⟨"RESERVED_OP_C", 0x1000000000C#41, 0x1FF0000000F#41⟩
  | .reservedOpD _ => ⟨"RESERVED_OP_D", 0x1000000000D#41, 0x1FF0000000F#41⟩
  | .reservedOpE _ => ⟨"RESERVED_OP_E", 0x1000000000E#41, 0x1FF0000000F#41⟩
  | .reservedOpF _ => ⟨"RESERVED_OP_F", 0x1000000000F#41, 0x1FF0000000F#41⟩
  | .wrLen _ => ⟨"WR_LEN", 0x10800000000#41, 0x1FF00000000#41⟩
  | .wrIterLo _ => ⟨"WR_ITER_LO", 0x10C00000000#41, 0x1FF00000000#41⟩
  | .wrIterHi _ => ⟨"WR_ITER_HI", 0x11000000000#41, 0x1FF00000000#41⟩
  | .wrData0 _ => ⟨"WR_DATA0", 0x11400000000#41, 0x1FF00000000#41⟩
  | .wrData1 _ => ⟨"WR_DATA1", 0x11800000000#41, 0x1FF00000000#41⟩
  | .wrData2 _ => ⟨"WR_DATA2", 0x11C00000000#41, 0x1FF00000000#41⟩
  | .wrTblIdx _ => ⟨"WR_TBL_IDX", 0x13000000000#41, 0x1FF00000000#41⟩
  | .wrStatus _ => ⟨"WR_STATUS", 0x10400000000#41, 0x1FF00000000#41⟩
  | .wrCrc _ => ⟨"WR_CRC", 0x12000000000#41, 0x1FF00000000#41⟩
  | .wrElapsedLo _ => ⟨"WR_ELAPSED_LO", 0x12400000000#41, 0x1FF00000000#41⟩
  | .wrElapsedHi _ => ⟨"WR_ELAPSED_HI", 0x12800000000#41, 0x1FF00000000#41⟩
  | .wrNWorkers _ => ⟨"WR_NWORKERS", 0x12C00000000#41, 0x1FF00000000#41⟩
  | .wrTblData _ => ⟨"WR_TBL_DATA", 0x13400000000#41, 0x1FF00000000#41⟩
  | .rdCtrl => ⟨"RD_CTRL", 0x00000000000#41, 0x1FF00000000#41⟩
  | .rdStatus => ⟨"RD_STATUS", 0x00400000000#41, 0x1FF00000000#41⟩
  | .rdLen => ⟨"RD_LEN", 0x00800000000#41, 0x1FF00000000#41⟩
  | .rdIterLo => ⟨"RD_ITER_LO", 0x00C00000000#41, 0x1FF00000000#41⟩
  | .rdIterHi => ⟨"RD_ITER_HI", 0x01000000000#41, 0x1FF00000000#41⟩
  | .rdData0 => ⟨"RD_DATA0", 0x01400000000#41, 0x1FF00000000#41⟩
  | .rdData1 => ⟨"RD_DATA1", 0x01800000000#41, 0x1FF00000000#41⟩
  | .rdData2 => ⟨"RD_DATA2", 0x01C00000000#41, 0x1FF00000000#41⟩
  | .rdCrc => ⟨"RD_CRC", 0x02000000000#41, 0x1FF00000000#41⟩
  | .rdElapsedLo => ⟨"RD_ELAPSED_LO", 0x02400000000#41, 0x1FF00000000#41⟩
  | .rdElapsedHi => ⟨"RD_ELAPSED_HI", 0x02800000000#41, 0x1FF00000000#41⟩
  | .rdNWorkers => ⟨"RD_NWORKERS", 0x02C00000000#41, 0x1FF00000000#41⟩
  | .rdTblIdx => ⟨"RD_TBL_IDX", 0x03000000000#41, 0x1FF00000000#41⟩
  | .rdTblData => ⟨"RD_TBL_DATA", 0x03400000000#41, 0x1FF00000000#41⟩
  | .rdReserved38 _ => ⟨"RD_RESERVED_0x38_0x3C", 0x03800000000#41, 0x1FB00000000#41⟩
  | .rdReserved40 _ => ⟨"RD_RESERVED_0x40_0x7C", 0x04000000000#41, 0x1C300000000#41⟩
  | .rdReserved80 _ => ⟨"RD_RESERVED_0x80_0xFC", 0x08000000000#41, 0x18300000000#41⟩
  | .wrReserved38 _ _ => ⟨"WR_RESERVED_0x38_0x3C", 0x13800000000#41, 0x1FB00000000#41⟩
  | .wrReserved40 _ _ => ⟨"WR_RESERVED_0x40_0x7C", 0x14000000000#41, 0x1C300000000#41⟩
  | .wrReserved80 _ _ => ⟨"WR_RESERVED_0x80_0xFC", 0x18000000000#41, 0x18300000000#41⟩
  | .misalignedOdd _ _ _ => ⟨"MISALIGNED_ODD", 0x00100000000#41, 0x00100000000#41⟩
  | .misalignedHalf _ _ _ => ⟨"MISALIGNED_HALF", 0x00200000000#41, 0x00300000000#41⟩

/-- The rows of the `CTRL` writes. -/
def commandRows : List Row :=
  [⟨"RESERVED_OP_0", 0x10000000000#41, 0x1FF0000000F#41⟩,
   ⟨"CRC_REF", 0x10000000001#41, 0x1FF0000000F#41⟩,
   ⟨"CRC_FAST", 0x10000000002#41, 0x1FF0000000F#41⟩,
   ⟨"RUN_BATCH", 0x10000000003#41, 0x1FF0000000F#41⟩,
   ⟨"TBL_BUILD", 0x10000000004#41, 0x1FF0000000F#41⟩,
   ⟨"RESERVED_OP_5", 0x10000000005#41, 0x1FF0000000F#41⟩,
   ⟨"RESERVED_OP_6", 0x10000000006#41, 0x1FF0000000F#41⟩,
   ⟨"RESERVED_OP_7", 0x10000000007#41, 0x1FF0000000F#41⟩,
   ⟨"RESERVED_OP_8", 0x10000000008#41, 0x1FF0000000F#41⟩,
   ⟨"RESERVED_OP_9", 0x10000000009#41, 0x1FF0000000F#41⟩,
   ⟨"RESERVED_OP_A", 0x1000000000A#41, 0x1FF0000000F#41⟩,
   ⟨"RESERVED_OP_B", 0x1000000000B#41, 0x1FF0000000F#41⟩,
   ⟨"RESERVED_OP_C", 0x1000000000C#41, 0x1FF0000000F#41⟩,
   ⟨"RESERVED_OP_D", 0x1000000000D#41, 0x1FF0000000F#41⟩,
   ⟨"RESERVED_OP_E", 0x1000000000E#41, 0x1FF0000000F#41⟩,
   ⟨"RESERVED_OP_F", 0x1000000000F#41, 0x1FF0000000F#41⟩]

/-- The rows of the register writes. -/
def writeRows : List Row :=
  [⟨"WR_LEN", 0x10800000000#41, 0x1FF00000000#41⟩,
   ⟨"WR_ITER_LO", 0x10C00000000#41, 0x1FF00000000#41⟩,
   ⟨"WR_ITER_HI", 0x11000000000#41, 0x1FF00000000#41⟩,
   ⟨"WR_DATA0", 0x11400000000#41, 0x1FF00000000#41⟩,
   ⟨"WR_DATA1", 0x11800000000#41, 0x1FF00000000#41⟩,
   ⟨"WR_DATA2", 0x11C00000000#41, 0x1FF00000000#41⟩,
   ⟨"WR_TBL_IDX", 0x13000000000#41, 0x1FF00000000#41⟩,
   ⟨"WR_STATUS", 0x10400000000#41, 0x1FF00000000#41⟩,
   ⟨"WR_CRC", 0x12000000000#41, 0x1FF00000000#41⟩,
   ⟨"WR_ELAPSED_LO", 0x12400000000#41, 0x1FF00000000#41⟩,
   ⟨"WR_ELAPSED_HI", 0x12800000000#41, 0x1FF00000000#41⟩,
   ⟨"WR_NWORKERS", 0x12C00000000#41, 0x1FF00000000#41⟩,
   ⟨"WR_TBL_DATA", 0x13400000000#41, 0x1FF00000000#41⟩]

/-- The rows of the register reads. -/
def readRows : List Row :=
  [⟨"RD_CTRL", 0x00000000000#41, 0x1FF00000000#41⟩,
   ⟨"RD_STATUS", 0x00400000000#41, 0x1FF00000000#41⟩,
   ⟨"RD_LEN", 0x00800000000#41, 0x1FF00000000#41⟩,
   ⟨"RD_ITER_LO", 0x00C00000000#41, 0x1FF00000000#41⟩,
   ⟨"RD_ITER_HI", 0x01000000000#41, 0x1FF00000000#41⟩,
   ⟨"RD_DATA0", 0x01400000000#41, 0x1FF00000000#41⟩,
   ⟨"RD_DATA1", 0x01800000000#41, 0x1FF00000000#41⟩,
   ⟨"RD_DATA2", 0x01C00000000#41, 0x1FF00000000#41⟩,
   ⟨"RD_CRC", 0x02000000000#41, 0x1FF00000000#41⟩,
   ⟨"RD_ELAPSED_LO", 0x02400000000#41, 0x1FF00000000#41⟩,
   ⟨"RD_ELAPSED_HI", 0x02800000000#41, 0x1FF00000000#41⟩,
   ⟨"RD_NWORKERS", 0x02C00000000#41, 0x1FF00000000#41⟩,
   ⟨"RD_TBL_IDX", 0x03000000000#41, 0x1FF00000000#41⟩,
   ⟨"RD_TBL_DATA", 0x03400000000#41, 0x1FF00000000#41⟩]

/-- The rows of the reserved offsets. -/
def reservedRows : List Row :=
  [⟨"RD_RESERVED_0x38_0x3C", 0x03800000000#41, 0x1FB00000000#41⟩,
   ⟨"RD_RESERVED_0x40_0x7C", 0x04000000000#41, 0x1C300000000#41⟩,
   ⟨"RD_RESERVED_0x80_0xFC", 0x08000000000#41, 0x18300000000#41⟩,
   ⟨"WR_RESERVED_0x38_0x3C", 0x13800000000#41, 0x1FB00000000#41⟩,
   ⟨"WR_RESERVED_0x40_0x7C", 0x14000000000#41, 0x1C300000000#41⟩,
   ⟨"WR_RESERVED_0x80_0xFC", 0x18000000000#41, 0x18300000000#41⟩]

/-- The rows of the misaligned offsets. -/
def misalignedRows : List Row :=
  [⟨"MISALIGNED_ODD", 0x00100000000#41, 0x00100000000#41⟩,
   ⟨"MISALIGNED_HALF", 0x00200000000#41, 0x00300000000#41⟩]

/-- The 51 rows of spec/opcode_table.json. -/
def opcodeRows : List Row :=
  commandRows ++ writeRows ++ readRows ++ reservedRows ++ misalignedRows

end Sys2Proof
end

