-- ==== Sys2Proof/Machine/Crc.lean ====
section
/-! DEFINITION. The CRC functions: the bit-serial step, the lookup table, the byte step, and the two
whole computations (41_crc_table.md, 42_crc_engine.md). Sequences are lists of bits, first
transmitted bit first (20_memory.md R31). -/

namespace Sys2Proof.Machine

/-- `BitStep(r, nxt)`: the feedback is taken from the top bit before the shift, and the polynomial is
XORed after it (42_crc_engine.md R100). -/
def bitStep (r : Crc15) (nxt : Bool) : Crc15 :=
  let feedback := Bool.xor nxt (r.getLsbD Config.topBit)
  let shifted := r <<< 1
  if feedback then shifted ^^^ Config.poly else shifted

/-- The seed of a table entry: the byte in the top eight bits (30_encoding.md R60). -/
def tableSeed (b : BitVec 8) : Crc15 :=
  b.setWidth 15 <<< Config.seedShift

/-- The bit-serial step with input bit 0, `n` times. -/
def zeroSteps : Nat → Crc15 → Crc15
  | 0, r => r
  | n + 1, r => zeroSteps n (bitStep r false)

/-- `TblEntry(b)` (41_crc_table.md R90). -/
def tblEntry (b : BitVec 8) : Crc15 :=
  zeroSteps 8 (tableSeed b)

/-- The constant contents of `TBL` (10_state.md R13). -/
def canonTable : Table :=
  Vector.ofFn fun i => tblEntry (BitVec.ofNat 8 i.val)

/-- `TBL[i]`. -/
def tableAt (tbl : Table) (i : BitVec 8) : Crc15 :=
  tbl[i.toNat]'i.isLt

/-- The table index of a byte step (30_encoding.md R59). -/
def tableIndex (r : Crc15) (b : BitVec 8) : BitVec 8 :=
  (r >>> Config.seedShift).setWidth 8 ^^^ b

/-- `ByteStep(r, B)` (42_crc_engine.md R101). -/
def byteStep (tbl : Table) (r : Crc15) (b : BitVec 8) : Crc15 :=
  r <<< 8 ^^^ tableAt tbl (tableIndex r b)

/-- The 8-bit number whose bit `7 - j` is element `j` of the list (30_encoding.md R58). -/
def byteOfBits (l : List Bool) : BitVec 8 :=
  l.foldl (fun acc b => acc <<< 1 ||| (BitVec.ofBool b).setWidth 8) 0#8

/-- `Byte(bits, k)`: elements `8k` to `8k + 7`, most significant first (30_encoding.md R58). -/
def byteAt (bits : List Bool) (k : Nat) : BitVec 8 :=
  byteOfBits ((bits.drop (8 * k)).take 8)

/-- `CrcRef(bits)` (42_crc_engine.md R102). -/
def crcRef (bits : List Bool) : Crc15 :=
  bits.foldl bitStep 0#15

/-- `CrcFast(bits)` over a table: the whole bytes, then the trailing bits (42_crc_engine.md R103,
20_memory.md R35). -/
def crcFast (tbl : Table) (bits : List Bool) : Crc15 :=
  let nb := bits.length / 8
  let r := (List.range nb).foldl (fun r k => byteStep tbl r (byteAt bits k)) 0#15
  (bits.drop (8 * nb)).foldl bitStep r

/-- A 15-bit CRC value in a 16-bit word, top bit 0 (10_state.md R15, R26). -/
def crcWord (r : Crc15) : BitVec 16 :=
  r.setWidth 16

end Sys2Proof.Machine
end

