-- ==== Sys2Proof/Machine/State.lean ====
section
/-! DEFINITION. The state of the block, its value after reset, and the reasons a step can stop
(10_state.md). -/

namespace Sys2Proof.Machine

/-- Why the machine faults. The hardware has no fault and no trap (60_exceptions.md R173), so there is
no constructor: errors are reported in `STATUS` and the machine goes on. -/
inductive Fault where
deriving DecidableEq, Repr

/-- Why the model gives a transaction no next state. -/
inductive Refusal where
  /-- Raised by the arm of an instruction that has no meaning yet. Safe: the run stops. -/
  | notModelled (mnemonic : String)
  /-- Raised by `MISALIGNED_ODD` and `MISALIGNED_HALF`: a transaction at an offset that is not a
  multiple of 4 has no meaning, and the host program that issues it is refused (20_memory.md R36,
  44_host_interface.md R160). Safe: the run stops with no state changed. -/
  | misalignedOffset
deriving DecidableEq, Repr

/-- The errors the boundary reports (60_exceptions.md R170). -/
inductive BoundaryError where
  | emptyInput
  | tooLong
  | iterationsOutOfRange
  | illegalCommand
deriving DecidableEq, Repr

/-- The four commands (30_encoding.md R55). -/
inductive Command where
  | crcRef
  | crcFast
  | runBatch
  | tblBuild
deriving DecidableEq, Repr

/-- Which part of the command's pseudocode `ENG` is in. The model's own; it means nothing while
`BUSY == 0`. DESIGN CHOICE, log entry 3. -/
inductive Phase where
  /-- The command has been accepted and `ENG` has taken no step of it. -/
  | start
  /-- A CRC computation is under way. -/
  | compute
  /-- Only the completion step is left. -/
  | finish
  /-- A parallel batch has been dispatched, and `ENG` waits for the join. -/
  | join
deriving DecidableEq, Repr

/-- The private elements of one worker (10_state.md R18). -/
structure Worker where
  /-- `WREG[w]`. -/
  reg   : Crc15
  /-- `WQUOTA[w]`. -/
  quota : BitVec 64
  /-- `WCOUNT[w]`. -/
  count : BitVec 64
  /-- `WFIN[w]`. -/
  fin   : Bool
deriving DecidableEq, Repr

/-- One line of the host's program (30_encoding.md R64, R65). The model's own. -/
inductive HostLine where
  /-- One transaction, `WR` or `RD`. -/
  | xfer (x : Txn)
  /-- `POLL`: repeat `RD STATUS` until `BUSY == 0`. The `ifDone` lines after it are carried out only if
  the polled value has `DONE == 1` (44_host_interface.md R163). Log entry 19. -/
  | poll (ifDone : Nat)
deriving DecidableEq, Repr

/-- The state (10_state.md R10 to R20), and after it the model's own fields. -/
structure State where
  /-- `REG`. -/
  reg      : Crc15
  /-- `BITS[0..95]`: element `i` is the `i`-th bit from the most significant end. -/
  bits     : BitVec 96
  /-- `LEN`. -/
  len      : BitVec 7
  /-- `ITER`. -/
  iter     : BitVec 64
  /-- `TBL`. -/
  tbl      : Table
  /-- `STATUS.BUSY`. -/
  busy     : Bool
  /-- `STATUS.DONE`. -/
  done     : Bool
  /-- `STATUS.ERR`. -/
  err      : Bool
  /-- `STATUS.ERRCODE`. -/
  errCode  : BitVec 3
  /-- `RESULT`, read as `CRC`, and the shared result slot. -/
  result   : BitVec 16
  /-- `ELAPSED`. -/
  elapsed  : BitVec 64
  /-- `TBL_IDX`. -/
  tblIdx   : BitVec 8
  /-- `OP`. -/
  op       : BitVec 4
  /-- `POS`. -/
  pos      : BitVec 7
  /-- `ICNT`. -/
  icnt     : BitVec 64
  /-- The worker pool; its length is `W`, which `NWORKERS` shows (10_state.md R17, R18). -/
  workers  : List Worker
  /-- The model's own: which part of its pseudocode `ENG` is in. Log entry 3. -/
  phase    : Phase
  /-- The model's own: the host's lines still to be carried out. Log entry 5. -/
  script   : List HostLine
  /-- The model's own: the values reads have returned to the host, newest first. Log entry 5. -/
  returned : List Word
  /-- The model's own: whose turns come next. Log entry 2. -/
  turns    : List Turn
  /-- The model's own: the counter at which the free values are taken. Log entry 8. -/
  draws    : Nat
deriving DecidableEq, Repr

/-- A worker after reset (10_state.md R25). -/
def Worker.reset : Worker :=
  { reg := 0#15, quota := 0#64, count := 0#64, fin := false }

/-- The state after reset (10_state.md R25, 70_reset_and_hazards.md R190). The model's own fields
start empty: log entries 2, 3, 5 and 8. -/
def State.reset : State :=
  { reg := 0#15
    bits := 0#96
    len := 0#7
    iter := 0#64
    tbl := canonTable
    busy := false
    done := false
    err := false
    errCode := 0#3
    result := 0#16
    elapsed := 0#64
    tblIdx := 0#8
    op := 0#4
    pos := 0#7
    icnt := 0#64
    workers := List.replicate Config.numWorkers Worker.reset
    phase := .start
    script := []
    returned := []
    turns := []
    draws := 0 }

end Sys2Proof.Machine
end

