-- ==== Sys2Proof/Machine/Operands.lean ====
section
/-! DEFINITION. How operands are assembled from State, and how the words of the register space are
packed (30_encoding.md R53, R54, R58, R61). -/

namespace Sys2Proof.Machine

/-- The cell `BITS[i]` of a bit store (10_state.md R11). -/
def cellOf (bits : BitVec 96) (i : Nat) : Bool :=
  bits.getMsbD i

/-- `bits = BITS[0..LEN)`, the sequence an operation consumes (10_state.md R11). -/
def State.sequence (s : State) : List Bool :=
  (List.range s.len.toNat).map (cellOf s.bits)

/-- The word `DATAn`: its bit `j` is `BITS[32n + 31 - j]` (30_encoding.md R53). -/
def dataWord (bits : BitVec 96) (n : Nat) : Word :=
  bits.extractLsb' (64 - 32 * n) 32

/-- The bit store after a write of `DATAn` (44_host_interface.md R147). -/
def withDataWord (bits : BitVec 96) (n : Nat) (v : Word) : BitVec 96 :=
  let cells : BitVec 96 := (0xFFFFFFFF#32).setWidth 96 <<< (64 - 32 * n)
  bits &&& ~~~cells ||| v.setWidth 96 <<< (64 - 32 * n)

/-- The low half of a 64-bit register (30_encoding.md R53, R54). -/
def lowHalf (x : BitVec 64) : Word :=
  x.extractLsb' 0 32

/-- The high half of a 64-bit register. -/
def highHalf (x : BitVec 64) : Word :=
  x.extractLsb' 32 32

/-- A 64-bit register from its halves, `(hi << 32) | lo` (30_encoding.md R61). -/
def ofHalves (hi lo : Word) : BitVec 64 :=
  hi ++ lo

/-- `W`, the size of the pool (10_state.md R17). -/
def State.numWorkers (s : State) : Nat :=
  s.workers.length

/-- What a read of `NWORKERS` returns: `W` in the low 16 bits (30_encoding.md R54). -/
def nWorkersWord (s : State) : Word :=
  (BitVec.ofNat 16 s.numWorkers).setWidth 32

/-- What a read of `TBL_DATA` returns (44_host_interface.md R149). -/
def tblDataWord (s : State) : Word :=
  (tableAt s.tbl s.tblIdx).setWidth 32

end Sys2Proof.Machine
end

