-- ==== Sys2Proof/Machine/Flags.lean ====
section
/-! DEFINITION. The flags of `STATUS`, the error codes, the command codes and the check at the boundary
(30_encoding.md R52, R55; 44_host_interface.md R151; 60_exceptions.md R170). -/

namespace Sys2Proof.Machine

/-- The word `STATUS` reads as (30_encoding.md R52, 44_host_interface.md R142). -/
def statusWord (s : State) : Word :=
  (BitVec.ofBool s.busy).setWidth 32
    ||| (BitVec.ofBool s.done).setWidth 32 <<< 1
    ||| (BitVec.ofBool s.err).setWidth 32 <<< 2
    ||| s.errCode.setWidth 32 <<< 4

/-- The numeric codes (60_exceptions.md R170). -/
def BoundaryError.code : BoundaryError → BitVec 3
  | .emptyInput => 1#3
  | .tooLong => 4#3
  | .iterationsOutOfRange => 5#3
  | .illegalCommand => 7#3

/-- The command codes (30_encoding.md R55). -/
def Command.code : Command → BitVec 4
  | .crcRef => 0x1#4
  | .crcFast => 0x2#4
  | .runBatch => 0x3#4
  | .tblBuild => 0x4#4

/-- The command a code stands for; the other twelve codes are reserved (30_encoding.md R55, R56). -/
def commandOf (op : BitVec 4) : Option Command :=
  match op.toNat with
  | 1 => some .crcRef
  | 2 => some .crcFast
  | 3 => some .runBatch
  | 4 => some .tblBuild
  | _ => none

/-- The two checks of the input, in their order (44_host_interface.md R151). -/
def checkLength (s : State) : Option BoundaryError :=
  if s.len.toNat = 0 then some .emptyInput
  else if Config.maxBits < s.len.toNat then some .tooLong
  else none

/-- The check of the iteration count, on the full 64-bit value (44_host_interface.md R151). -/
def checkIterations (s : State) : Option BoundaryError :=
  if s.iter.toNat < Config.iterMin ∨ Config.iterMax < s.iter.toNat then some .iterationsOutOfRange
  else none

/-- `Check(op)` (44_host_interface.md R151): the input before the count, and nothing for
`TBL_BUILD`. -/
def check (c : Command) (s : State) : Option BoundaryError :=
  match c with
  | .tblBuild => none
  | .crcRef => checkLength s
  | .crcFast => checkLength s
  | .runBatch => (checkLength s).or (checkIterations s)

end Sys2Proof.Machine
end

