-- ==== Sys2Proof/Machine/Ops.lean ====
section
/-! DEFINITION. The named operations the meanings are built from: giving a read its value, taking an
error and leaving it, accepting a command, completing it, the ignored write, and the free values. -/

namespace Sys2Proof.Machine

/-- A read gives the host a value and changes nothing else (20_memory.md R37). -/
def deliver (v : Word) (s : State) : State :=
  { s with returned := v :: s.returned }

/-- TAKING AN ERROR, `refuse(e)`: the flag and the code are set and nothing else changes
(44_host_interface.md R154, 60_exceptions.md R174). -/
def refuse (e : BoundaryError) (s : State) : State :=
  { s with err := true, errCode := e.code }

/-- LEAVING AN ERROR: a `CTRL` write made while idle forgets the previous outcome before it is judged
(44_host_interface.md R150, 60_exceptions.md R175). -/
def forgetOutcome (s : State) : State :=
  { s with done := false, err := false, errCode := 0#3 }

/-- `accept(op)`: `OP <- op; BUSY <- 1`; from here on `ENG` has steps (44_host_interface.md R152). -/
def accept (op : BitVec 4) (s : State) : State :=
  { s with op := op, busy := true, phase := .start }

/-- Completion: `BUSY <- 0; DONE <- 1` (44_host_interface.md R153). -/
def complete (s : State) : State :=
  { s with busy := false, done := true }

/-- A write of an input register: ignored, not deferred, while `BUSY == 1` (20_memory.md R44). -/
def whenIdle (write : State → State) (s : State) : State :=
  if s.busy then s else write s

/-- `ELAPSED <- draw()` (43_batch_runner.md R131). Free value, log entry 6. -/
def drawElapsed (s : State) : State :=
  { s with elapsed := Config.elapsedDraw s.draws, draws := s.draws + 1 }

/-- A read that returns a draw (44_host_interface.md R156). Free value, log entry 7. -/
def deliverDraw (s : State) : State :=
  { s with returned := Config.busyCrcDraw s.draws :: s.returned, draws := s.draws + 1 }

/-- `WR CTRL, v` with `op = v[3:0]` (44_host_interface.md R150, R161). -/
def ctrlWrite (op : BitVec 4) (s : State) : State :=
  if s.busy then s
  else
    let s' := forgetOutcome s
    match commandOf op with
    | none => refuse .illegalCommand s'
    | some c =>
      match check c s' with
      | some e => refuse e s'
      | none => accept op s'

end Sys2Proof.Machine
end

