-- ==== Sys2Proof/Machine/Commands.lean ====
section
/-! DEFINITION. The meanings of the `CTRL` writes: the four commands and the twelve reserved codes
(44_host_interface.md R150 to R154, 30_encoding.md R56). The bits above the code are ignored
(30_encoding.md R51). What an accepted command then does is in Engine.lean. -/

namespace Sys2Proof.Machine

/-- `WR CTRL` with the reserved code 0x0 (30_encoding.md R56). -/
def execReservedOp0 (s : State) : Host.Outcome State Fault Refusal :=
  .next (ctrlWrite 0x0#4 s)

/-- `CRC_REF`: the start of the command (44_host_interface.md R150; its operation is rule R102). -/
def execCrcRef (s : State) : Host.Outcome State Fault Refusal :=
  .next (ctrlWrite 0x1#4 s)

/-- `CRC_FAST`: the start of the command (44_host_interface.md R150; its operation is rule R103). -/
def execCrcFast (s : State) : Host.Outcome State Fault Refusal :=
  .next (ctrlWrite 0x2#4 s)

/-- `RUN_BATCH`: the start of the command (44_host_interface.md R150; its operation is rule R120). -/
def execRunBatch (s : State) : Host.Outcome State Fault Refusal :=
  .next (ctrlWrite 0x3#4 s)

/-- `TBL_BUILD`: the start of the command (44_host_interface.md R150; its operation is rule R91). -/
def execTblBuild (s : State) : Host.Outcome State Fault Refusal :=
  .next (ctrlWrite 0x4#4 s)

/-- `WR CTRL` with the reserved code 0x5 (30_encoding.md R56). -/
def execReservedOp5 (s : State) : Host.Outcome State Fault Refusal :=
  .next (ctrlWrite 0x5#4 s)

/-- `WR CTRL` with the reserved code 0x6 (30_encoding.md R56). -/
def execReservedOp6 (s : State) : Host.Outcome State Fault Refusal :=
  .next (ctrlWrite 0x6#4 s)

/-- `WR CTRL` with the reserved code 0x7 (30_encoding.md R56). -/
def execReservedOp7 (s : State) : Host.Outcome State Fault Refusal :=
  .next (ctrlWrite 0x7#4 s)

/-- `WR CTRL` with the reserved code 0x8 (30_encoding.md R56). -/
def execReservedOp8 (s : State) : Host.Outcome State Fault Refusal :=
  .next (ctrlWrite 0x8#4 s)

/-- `WR CTRL` with the reserved code 0x9 (30_encoding.md R56). -/
def execReservedOp9 (s : State) : Host.Outcome State Fault Refusal :=
  .next (ctrlWrite 0x9#4 s)

/-- `WR CTRL` with the reserved code 0xA (30_encoding.md R56). -/
def execReservedOpA (s : State) : Host.Outcome State Fault Refusal :=
  .next (ctrlWrite 0xA#4 s)

/-- `WR CTRL` with the reserved code 0xB (30_encoding.md R56). -/
def execReservedOpB (s : State) : Host.Outcome State Fault Refusal :=
  .next (ctrlWrite 0xB#4 s)

/-- `WR CTRL` with the reserved code 0xC (30_encoding.md R56). -/
def execReservedOpC (s : State) : Host.Outcome State Fault Refusal :=
  .next (ctrlWrite 0xC#4 s)

/-- `WR CTRL` with the reserved code 0xD (30_encoding.md R56). -/
def execReservedOpD (s : State) : Host.Outcome State Fault Refusal :=
  .next (ctrlWrite 0xD#4 s)

/-- `WR CTRL` with the reserved code 0xE (30_encoding.md R56). -/
def execReservedOpE (s : State) : Host.Outcome State Fault Refusal :=
  .next (ctrlWrite 0xE#4 s)

/-- `WR CTRL` with the reserved code 0xF (30_encoding.md R56). -/
def execReservedOpF (s : State) : Host.Outcome State Fault Refusal :=
  .next (ctrlWrite 0xF#4 s)

end Sys2Proof.Machine
end

