-- ==== Sys2Proof/Machine/RegRead.lean ====
section
/-! DEFINITION. The meanings of the register reads (44_host_interface.md R141 to R143, R149, R155 to
R158). A read changes no state but the list of values returned to the host. -/

namespace Sys2Proof.Machine

/-- `RD CTRL`: always 0 (R141). -/
def execRdCtrl (s : State) : Host.Outcome State Fault Refusal :=
  .next (deliver 0#32 s)

/-- `RD STATUS`: the flags (R142). -/
def execRdStatus (s : State) : Host.Outcome State Fault Refusal :=
  .next (deliver (statusWord s) s)

/-- `RD LEN`: `LEN` (R143). -/
def execRdLen (s : State) : Host.Outcome State Fault Refusal :=
  .next (deliver (s.len.setWidth 32) s)

/-- `RD ITER_LO`: `ITER[31:0]` (R143). -/
def execRdIterLo (s : State) : Host.Outcome State Fault Refusal :=
  .next (deliver (lowHalf s.iter) s)

/-- `RD ITER_HI`: `ITER[63:32]` (R143). -/
def execRdIterHi (s : State) : Host.Outcome State Fault Refusal :=
  .next (deliver (highHalf s.iter) s)

/-- `RD DATA0`: `BITS[0..31]` (R143). -/
def execRdData0 (s : State) : Host.Outcome State Fault Refusal :=
  .next (deliver (dataWord s.bits 0) s)

/-- `RD DATA1`: `BITS[32..63]` (R143). -/
def execRdData1 (s : State) : Host.Outcome State Fault Refusal :=
  .next (deliver (dataWord s.bits 1) s)

/-- `RD DATA2`: `BITS[64..95]` (R143). -/
def execRdData2 (s : State) : Host.Outcome State Fault Refusal :=
  .next (deliver (dataWord s.bits 2) s)

/-- `RD CRC`: `RESULT` while idle (R155), a draw while busy (R156). -/
def execRdCrc (s : State) : Host.Outcome State Fault Refusal :=
  if s.busy then .next (deliverDraw s) else .next (deliver (s.result.setWidth 32) s)

/-- `RD ELAPSED_LO`: `ELAPSED[31:0]` (R157). -/
def execRdElapsedLo (s : State) : Host.Outcome State Fault Refusal :=
  .next (deliver (lowHalf s.elapsed) s)

/-- `RD ELAPSED_HI`: `ELAPSED[63:32]` (R157). -/
def execRdElapsedHi (s : State) : Host.Outcome State Fault Refusal :=
  .next (deliver (highHalf s.elapsed) s)

/-- `RD NWORKERS`: `W` (R158). -/
def execRdNWorkers (s : State) : Host.Outcome State Fault Refusal :=
  .next (deliver (nWorkersWord s) s)

/-- `RD TBL_IDX`: `TBL_IDX` (R143). -/
def execRdTblIdx (s : State) : Host.Outcome State Fault Refusal :=
  .next (deliver (s.tblIdx.setWidth 32) s)

/-- `RD TBL_DATA`: `TBL[TBL_IDX]` (R149). -/
def execRdTblData (s : State) : Host.Outcome State Fault Refusal :=
  .next (deliver (tblDataWord s) s)

end Sys2Proof.Machine
end

