-- ==== Sys2Proof/Machine/RegWrite.lean ====
section
/-! DEFINITION. The meanings of the register writes (44_host_interface.md R144 to R148, R159). -/

namespace Sys2Proof.Machine

/-- `WR LEN, v`: `LEN <- v[6:0]`, with no check (R144). -/
def execWrLen (v : Word) (s : State) : Host.Outcome State Fault Refusal :=
  .next (whenIdle (fun s => { s with len := v.setWidth 7 }) s)

/-- `WR ITER_LO, v` (R145). -/
def execWrIterLo (v : Word) (s : State) : Host.Outcome State Fault Refusal :=
  .next (whenIdle (fun s => { s with iter := ofHalves (highHalf s.iter) v }) s)

/-- `WR ITER_HI, v` (R146). -/
def execWrIterHi (v : Word) (s : State) : Host.Outcome State Fault Refusal :=
  .next (whenIdle (fun s => { s with iter := ofHalves v (lowHalf s.iter) }) s)

/-- `WR DATA0, v` (R147). -/
def execWrData0 (v : Word) (s : State) : Host.Outcome State Fault Refusal :=
  .next (whenIdle (fun s => { s with bits := withDataWord s.bits 0 v }) s)

/-- `WR DATA1, v` (R147). -/
def execWrData1 (v : Word) (s : State) : Host.Outcome State Fault Refusal :=
  .next (whenIdle (fun s => { s with bits := withDataWord s.bits 1 v }) s)

/-- `WR DATA2, v` (R147). -/
def execWrData2 (v : Word) (s : State) : Host.Outcome State Fault Refusal :=
  .next (whenIdle (fun s => { s with bits := withDataWord s.bits 2 v }) s)

/-- `WR TBL_IDX, v`: accepted at any time (R148). -/
def execWrTblIdx (v : Word) (s : State) : Host.Outcome State Fault Refusal :=
  .next { s with tblIdx := v.setWidth 8 }

/-- `WR STATUS`: a read-only register, no state change (R159). -/
def execWrStatus (s : State) : Host.Outcome State Fault Refusal :=
  .next s

/-- `WR CRC`: a read-only register, no state change (R159). -/
def execWrCrc (s : State) : Host.Outcome State Fault Refusal :=
  .next s

/-- `WR ELAPSED_LO`: a read-only register, no state change (R159). -/
def execWrElapsedLo (s : State) : Host.Outcome State Fault Refusal :=
  .next s

/-- `WR ELAPSED_HI`: a read-only register, no state change (R159). -/
def execWrElapsedHi (s : State) : Host.Outcome State Fault Refusal :=
  .next s

/-- `WR NWORKERS`: a read-only register, no state change (R159). -/
def execWrNWorkers (s : State) : Host.Outcome State Fault Refusal :=
  .next s

/-- `WR TBL_DATA`: a read-only register, no state change (R159). -/
def execWrTblData (s : State) : Host.Outcome State Fault Refusal :=
  .next s

end Sys2Proof.Machine
end

