-- ==== Sys2Proof/Machine/Reserved.lean ====
section
/-! DEFINITION. The meanings of the transactions at offsets that hold no register
(44_host_interface.md R160) and at misaligned offsets (20_memory.md R36). -/

namespace Sys2Proof.Machine

/-- A read at a reserved offset 0x38 to 0x3C returns 0 (R160). -/
def execRdReserved38 (s : State) : Host.Outcome State Fault Refusal :=
  .next (deliver 0#32 s)

/-- A read at a reserved offset 0x40 to 0x7C returns 0 (R160). -/
def execRdReserved40 (s : State) : Host.Outcome State Fault Refusal :=
  .next (deliver 0#32 s)

/-- A read at a reserved offset 0x80 to 0xFC returns 0 (R160). -/
def execRdReserved80 (s : State) : Host.Outcome State Fault Refusal :=
  .next (deliver 0#32 s)

/-- A write at a reserved offset 0x38 to 0x3C changes no state (R160). -/
def execWrReserved38 (s : State) : Host.Outcome State Fault Refusal :=
  .next s

/-- A write at a reserved offset 0x40 to 0x7C changes no state (R160). -/
def execWrReserved40 (s : State) : Host.Outcome State Fault Refusal :=
  .next s

/-- A write at a reserved offset 0x80 to 0xFC changes no state (R160). -/
def execWrReserved80 (s : State) : Host.Outcome State Fault Refusal :=
  .next s

/-- `MISALIGNED_ODD`: the hardware gives the transaction no meaning, and the host program is refused (R36). -/
def execMisalignedOdd (_s : State) : Host.Outcome State Fault Refusal :=
  .refused .misalignedOffset

/-- `MISALIGNED_HALF`: the hardware gives the transaction no meaning, and the host program is refused (R36). -/
def execMisalignedHalf (_s : State) : Host.Outcome State Fault Refusal :=
  .refused .misalignedOffset

end Sys2Proof.Machine
end

