-- ==== Sys2Proof/Machine/Dispatch.lean ====
section
/-! DEFINITION. The dispatch: one arm for each constructor of Instr. -/

namespace Sys2Proof.Machine

def exec (i : Instr) (s : State) : Host.Outcome State Fault Refusal :=
  match i with
  | .reservedOp0 _ => Sys2Proof.Machine.execReservedOp0 s
  | .crcRef _ => Sys2Proof.Machine.execCrcRef s
  | .crcFast _ => Sys2Proof.Machine.execCrcFast s
  | .runBatch _ => Sys2Proof.Machine.execRunBatch s
  | .tblBuild _ => Sys2Proof.Machine.execTblBuild s
  | .reservedOp5 _ => Sys2Proof.Machine.execReservedOp5 s
  | .reservedOp6 _ => Sys2Proof.Machine.execReservedOp6 s
  | .reservedOp7 _ => Sys2Proof.Machine.execReservedOp7 s
  | .reservedOp8 _ => Sys2Proof.Machine.execReservedOp8 s
  | .reservedOp9 _ => Sys2Proof.Machine.execReservedOp9 s
  | .reservedOpA _ => Sys2Proof.Machine.execReservedOpA s
  | .reservedOpB _ => Sys2Proof.Machine.execReservedOpB s
  | .reservedOpC _ => Sys2Proof.Machine.execReservedOpC s
  | .reservedOpD _ => Sys2Proof.Machine.execReservedOpD s
  | .reservedOpE _ => Sys2Proof.Machine.execReservedOpE s
  | .reservedOpF _ => Sys2Proof.Machine.execReservedOpF s
  | .wrLen v => Sys2Proof.Machine.execWrLen v s
  | .wrIterLo v => Sys2Proof.Machine.execWrIterLo v s
  | .wrIterHi v => Sys2Proof.Machine.execWrIterHi v s
  | .wrData0 v => Sys2Proof.Machine.execWrData0 v s
  | .wrData1 v => Sys2Proof.Machine.execWrData1 v s
  | .wrData2 v => Sys2Proof.Machine.execWrData2 v s
  | .wrTblIdx v => Sys2Proof.Machine.execWrTblIdx v s
  | .wrStatus _ => Sys2Proof.Machine.execWrStatus s
  | .wrCrc _ => Sys2Proof.Machine.execWrCrc s
  | .wrElapsedLo _ => Sys2Proof.Machine.execWrElapsedLo s
  | .wrElapsedHi _ => Sys2Proof.Machine.execWrElapsedHi s
  | .wrNWorkers _ => Sys2Proof.Machine.execWrNWorkers s
  | .wrTblData _ => Sys2Proof.Machine.execWrTblData s
  | .rdCtrl => Sys2Proof.Machine.execRdCtrl s
  | .rdStatus => Sys2Proof.Machine.execRdStatus s
  | .rdLen => Sys2Proof.Machine.execRdLen s
  | .rdIterLo => Sys2Proof.Machine.execRdIterLo s
  | .rdIterHi => Sys2Proof.Machine.execRdIterHi s
  | .rdData0 => Sys2Proof.Machine.execRdData0 s
  | .rdData1 => Sys2Proof.Machine.execRdData1 s
  | .rdData2 => Sys2Proof.Machine.execRdData2 s
  | .rdCrc => Sys2Proof.Machine.execRdCrc s
  | .rdElapsedLo => Sys2Proof.Machine.execRdElapsedLo s
  | .rdElapsedHi => Sys2Proof.Machine.execRdElapsedHi s
  | .rdNWorkers => Sys2Proof.Machine.execRdNWorkers s
  | .rdTblIdx => Sys2Proof.Machine.execRdTblIdx s
  | .rdTblData => Sys2Proof.Machine.execRdTblData s
  | .rdReserved38 _ => Sys2Proof.Machine.execRdReserved38 s
  | .rdReserved40 _ => Sys2Proof.Machine.execRdReserved40 s
  | .rdReserved80 _ => Sys2Proof.Machine.execRdReserved80 s
  | .wrReserved38 _ _ => Sys2Proof.Machine.execWrReserved38 s
  | .wrReserved40 _ _ => Sys2Proof.Machine.execWrReserved40 s
  | .wrReserved80 _ _ => Sys2Proof.Machine.execWrReserved80 s
  | .misalignedOdd _ _ _ => Sys2Proof.Machine.execMisalignedOdd s
  | .misalignedHalf _ _ _ => Sys2Proof.Machine.execMisalignedHalf s

end Sys2Proof.Machine
end

