-- ==== Sys2Proof/Machine/Engine.lean ====
section
/-! DEFINITION. The steps of `ENG`: one micro-operation, dispatch or completion at a time
(42_crc_engine.md R102, R103, R110; 41_crc_table.md R91; 43_batch_runner.md R120 to R128). -/

namespace Sys2Proof.Machine

/-- A CRC computation starts: `REG <- 0; POS <- 0` (42_crc_engine.md R102, R103). -/
def beginComputation (s : State) : State :=
  { s with reg := 0#15, pos := 0#7, phase := .compute }

/-- `BITSTEP` at the cursor: `REG <- BitStep(REG, BITS[POS]); POS <- POS + 1` (42_crc_engine.md
R100). -/
def bitMicro (s : State) : State :=
  { s with reg := bitStep s.reg (cellOf s.bits s.pos.toNat), pos := s.pos + 1#7 }

/-- `BYTESTEP` at the cursor: `REG <- ByteStep(REG, Byte(bits, POS div 8)); POS <- POS + 8`
(42_crc_engine.md R101). -/
def byteMicro (s : State) : State :=
  { s with
    reg := byteStep s.tbl s.reg (byteAt s.sequence (s.pos.toNat / 8))
    pos := s.pos + 8#7 }

/-- `RESULT <- zext_16(REG)`. -/
def storeResult (s : State) : State :=
  { s with result := crcWord s.reg }

/-- One step of the body of `CRC_FAST`, or the step `after` once the sequence is consumed: the byte
loop first, then the bit loop (42_crc_engine.md R103). -/
def fastBody (after : State → State) (s : State) : State :=
  if s.pos.toNat + 8 ≤ s.len.toNat then byteMicro s
  else if s.pos.toNat < s.len.toNat then bitMicro s
  else after s

/-- A step of `CRC_REF` (42_crc_engine.md R102); the last one writes `RESULT` and completes (R110). -/
def crcRefStep (s : State) : State :=
  match s.phase with
  | .start => beginComputation s
  | .compute => if s.pos.toNat < s.len.toNat then bitMicro s else complete (storeResult s)
  | .finish => s
  | .join => s

/-- A step of `CRC_FAST` (42_crc_engine.md R103). -/
def crcFastStep (s : State) : State :=
  match s.phase with
  | .start => beginComputation s
  | .compute => fastBody (fun s => complete (storeResult s)) s
  | .finish => s
  | .join => s

/-- A step of `TBL_BUILD` (41_crc_table.md R91): every entry is stored, then completion. Log entry 4. -/
def tblBuildStep (s : State) : State :=
  match s.phase with
  | .start => { s with tbl := canonTable, phase := .finish }
  | .compute => s
  | .finish => complete s
  | .join => s

/-- The three strategies of a batch (43_batch_runner.md R121). -/
inductive BatchPath where
  | single
  | sequential
  | parallel
deriving DecidableEq, Repr

/-- The dispatch on the iteration count, conditions tested in the order listed (43_batch_runner.md
R120, R121). -/
def batchPath (n : Nat) : BatchPath :=
  if n = 1 then .single
  else if n < Config.parThreshold then .sequential
  else .parallel

/-- `Quota(N, W, w)` (43_batch_runner.md R124). -/
def quota (n w i : Nat) : Nat :=
  n / w + if i < n % w then 1 else 0

/-- What the dispatch sets in worker `i` (43_batch_runner.md R125). -/
def assignQuota (n w i : Nat) (k : Worker) : Worker :=
  { k with quota := BitVec.ofNat 64 (quota n w i), count := 0#64, fin := false }

/-- The dispatch of the parallel path (43_batch_runner.md R125). -/
def dispatchWorkers (s : State) : State :=
  { s with
    workers := s.workers.mapIdx (assignQuota s.iter.toNat s.numWorkers)
    phase := .join }

/-- The start of the single and sequential paths: `ICNT <- 0`, and the first computation begins. The
single path is the loop with `N == 1` (43_batch_runner.md R122, R123). -/
def beginLoop (s : State) : State :=
  beginComputation { s with icnt := 0#64 }

/-- `ICNT <- ICNT + 1` after one computation; the next one starts from register 0, or the loop is over
(43_batch_runner.md R123, R130). -/
def countComputation (s : State) : State :=
  let s' := { s with icnt := s.icnt + 1#64 }
  if s'.icnt.toNat < s'.iter.toNat then beginComputation s' else { s' with phase := .finish }

/-- The join's condition: every `WFIN[w]` is 1 (43_batch_runner.md R128). -/
def allFinished (s : State) : Bool :=
  s.workers.all (·.fin)

/-- A step of `RUN_BATCH` (43_batch_runner.md R120 to R123, R125, R128). -/
def runBatchStep (s : State) : State :=
  match s.phase with
  | .start =>
    match batchPath s.iter.toNat with
    | .single => beginLoop s
    | .sequential => beginLoop s
    | .parallel => dispatchWorkers s
  | .compute => fastBody countComputation s
  | .finish => complete (drawElapsed (storeResult s))
  | .join => if allFinished s then complete (drawElapsed s) else s

/-- A step of `ENG`: none while `BUSY == 0` (44_host_interface.md R152, R153), and none for a code that
is no command's (log entry 10). -/
def engStep (s : State) : State :=
  if s.busy then
    match commandOf s.op with
    | some .crcRef => crcRefStep s
    | some .crcFast => crcFastStep s
    | some .runBatch => runBatchStep s
    | some .tblBuild => tblBuildStep s
    | none => s
  else s

end Sys2Proof.Machine
end

