-- ==== Sys2Proof/Machine/Workers.lean ====
section
/-! DEFINITION. The steps of the workers (43_batch_runner.md R126, R127). -/

namespace Sys2Proof.Machine

/-- Whether the workers have steps: only between the dispatch and the join of a parallel batch
(60_exceptions.md R184). Log entry 11. -/
def workersRun (s : State) : Bool :=
  s.busy && commandOf s.op == some .runBatch && s.phase == .join

/-- The iteration step: one whole computation from register 0 (43_batch_runner.md R126). -/
def iterationStep (w : Nat) (k : Worker) (s : State) : State :=
  { s with
    workers := s.workers.set w
      { k with reg := crcFast s.tbl s.sequence, count := k.count + 1#64 } }

/-- The final step: the one write to the shared slot, if the quota is positive, and `WFIN[w] <- 1`
(43_batch_runner.md R126, R127). -/
def finalStep (w : Nat) (k : Worker) (s : State) : State :=
  { s with
    result := if 0 < k.quota.toNat then crcWord k.reg else s.result
    workers := s.workers.set w { k with fin := true } }

/-- A step of `WRK[w]`, or no step where none is enabled (43_batch_runner.md R126). -/
def workerStep (w : Nat) (s : State) : State :=
  if workersRun s then
    match s.workers[w]? with
    | none => s
    | some k =>
      if k.fin then s
      else if k.count.toNat < k.quota.toNat then iterationStep w k s
      else if k.count = k.quota then finalStep w k s
      else s
  else s

end Sys2Proof.Machine
end

