-- ==== Sys2Proof/Machine/Schedule.lean ====
section
/-! DEFINITION. Whose turn comes next, the host's next line, and the event `Reset`. -/

namespace Sys2Proof.Machine

/-- Whose turn comes next: the head of `turns`, and a free value once the list is used up
(20_memory.md R41). Log entry 2. -/
def nextTurn (s : State) : Turn :=
  match s.turns with
  | t :: _ => t
  | [] => Config.schedule s.draws

/-- The state once the turn has been taken from the schedule. -/
def takeTurn (s : State) : State :=
  match s.turns with
  | _ :: ts => { s with turns := ts }
  | [] => { s with draws := s.draws + 1 }

/-- The event `Reset`: every element of the block takes its reset value, also during an operation;
the pool keeps its size (10_state.md R25, 70_reset_and_hazards.md R190, R191). The model's own record
of the outside world stays. Log entry 9. -/
def resetEvent (s : State) : State :=
  { State.reset with
    workers := List.replicate s.numWorkers Worker.reset
    script := s.script
    returned := s.returned
    turns := s.turns
    draws := s.draws }

/-- The lines left once `POLL` has read `STATUS`: it repeats while the value read has `BUSY == 1`
(30_encoding.md R65), and then passes over the lines that a value with `DONE == 0` gives no ground for
(44_host_interface.md R163). Log entry 19. -/
def afterPoll (s : State) (ifDone : Nat) (rest : List HostLine) : List HostLine :=
  if s.busy then .poll ifDone :: rest
  else if s.done then rest
  else rest.drop ifDone

end Sys2Proof.Machine
end

