-- ==== Sys2Proof/Machine/Step.lean ====
section
/-! DEFINITION. One step of the machine: one step of the agent whose turn it is. An agent with nothing to
do lets its turn pass. -/

namespace Sys2Proof.Machine

/-- The host's turn: its next line is taken and carried out (44_host_interface.md R140). A `POLL` line is
`RD STATUS`, kept while the block is busy (30_encoding.md R65). -/
def hostStep (s : State) : Host.Outcome State Fault Refusal :=
  match s.script with
  | [] => .next s
  | .xfer x :: rest => exec (decode x) { s with script := rest }
  | .poll ifDone :: rest => exec .rdStatus { s with script := afterPoll s ifDone rest }

/-- One step of one agent, or the event `Reset` (10_state.md R22, 60_exceptions.md R177). -/
def step (s : State) : Host.Outcome State Fault Refusal :=
  match nextTurn s with
  | .host => hostStep (takeTurn s)
  | .eng => .next (engStep (takeTurn s))
  | .wrk w => .next (workerStep w (takeTurn s))
  | .reset => .next (resetEvent (takeTurn s))

/-- The transaction word in the low `nbits` bits of `w`, made the host's next line, and the next turn
made the host's. Log entry 5. -/
def State.withFetchWord (s : State) (nbits w : Nat) : State :=
  { s with
    script := .xfer (BitVec.ofNat 41 (w % 2 ^ nbits)) :: s.script
    turns := .host :: s.turns }

end Sys2Proof.Machine
end

