-- ==== Sys2Proof/Machine/Codec.lean ====
section
/-! DEFINITION. The host-side input codec and the rendering of a result (40_input_codec.md). A text is a
list of Unicode scalar values (92_eei_decisions.md D34). -/

namespace Sys2Proof.Machine

/-- The errors both parsers return, with their payloads (40_input_codec.md R79). -/
inductive DecodeError where
  | emptyInput
  | invalidCharacter (chars : List Char)
  | oddLength
  | tooLong (actual max : Nat)
deriving DecidableEq, Repr

/-- The numeric codes, shared with `ERRCODE` (60_exceptions.md R170). -/
def DecodeError.code : DecodeError → BitVec 3
  | .emptyInput => 1#3
  | .invalidCharacter _ => 2#3
  | .oddLength => 3#3
  | .tooLong _ _ => 4#3

/-- The six whitespace characters (40_input_codec.md R70). -/
def isWhitespace (c : Char) : Bool :=
  c.toNat == 0x20 || (0x09 ≤ c.toNat && c.toNat ≤ 0x0D)

/-- `0`-`9` and `A`-`F` (40_input_codec.md R70). -/
def isHexDigit (c : Char) : Bool :=
  ('0'.toNat ≤ c.toNat && c.toNat ≤ '9'.toNat) || ('A'.toNat ≤ c.toNat && c.toNat ≤ 'F'.toNat)

/-- `Upper(c)`: ASCII `a`-`z` only (40_input_codec.md R70). -/
def upper (c : Char) : Char :=
  if 'a'.toNat ≤ c.toNat ∧ c.toNat ≤ 'z'.toNat then Char.ofNat (c.toNat - 32) else c

/-- `HexVal(c)` (40_input_codec.md R74). -/
def hexVal (c : Char) : Nat :=
  if c.toNat ≤ '9'.toNat then c.toNat - '0'.toNat else c.toNat - 'A'.toNat + 10

/-- The characters that count: all but whitespace, in order (40_input_codec.md R71, R72). -/
def significant (text : List Char) : List Char :=
  text.filter fun c => !isWhitespace c

/-- `PARSE_BIN(text)` (40_input_codec.md R71); the report is cut after the fifth offender (R73). -/
def parseBin (text : List Char) : Except DecodeError (List Bool) :=
  let s := significant text
  let bad := s.filter fun c => c != '0' && c != '1'
  if bad ≠ [] then .error (.invalidCharacter (bad.take Config.maxReport))
  else if s.length = 0 then .error .emptyInput
  else if Config.maxBits < s.length then .error (.tooLong s.length Config.maxBits)
  else .ok (s.map (· == '1'))

/-- The eight bits of a byte, most significant first (20_memory.md R31). -/
def bitsOfByte (b : BitVec 8) : List Bool :=
  (List.range 8).map b.getMsbD

/-- The bits of a text of hex digits, two digits a byte, the first the high nibble
(40_input_codec.md R72, R74). -/
def hexBits : List Char → List Bool
  | hi :: lo :: rest => bitsOfByte (BitVec.ofNat 8 (16 * hexVal hi + hexVal lo)) ++ hexBits rest
  | _ => []

/-- `PARSE_HEX(text)` (40_input_codec.md R72). -/
def parseHex (text : List Char) : Except DecodeError (List Bool) :=
  let h := significant (text.map upper)
  let bad := h.filter fun c => !isHexDigit c
  let n := h.length / 2
  if bad ≠ [] then .error (.invalidCharacter (bad.take Config.maxReport))
  else if h.length = 0 then .error .emptyInput
  else if h.length % 2 = 1 then .error .oddLength
  else if Config.maxBytes < n then .error (.tooLong (8 * n) Config.maxBits)
  else .ok (hexBits h)

/-- The upper-case hexadecimal digit of a number below 16 (40_input_codec.md R78). -/
def hexDigit (n : Nat) : Char :=
  if n < 10 then Char.ofNat ('0'.toNat + n) else Char.ofNat ('A'.toNat + (n - 10))

/-- Four hexadecimal digits, padded with `0` (40_input_codec.md R78). -/
def renderHex (v : Crc15) : List Char :=
  [v.toNat / 4096, v.toNat / 256 % 16, v.toNat / 16 % 16, v.toNat % 16].map hexDigit

/-- The decimal digits, with no padding; a CRC value has at most five (40_input_codec.md R78). -/
def renderDec (v : Crc15) : List Char :=
  let digits := [v.toNat / 10000, v.toNat / 1000 % 10, v.toNat / 100 % 10, v.toNat / 10 % 10]
  (digits.dropWhile (· == 0) ++ [v.toNat % 10]).map hexDigit

/-- Fifteen binary digits, bit 14 first (40_input_codec.md R78). -/
def renderBin (v : Crc15) : List Char :=
  (List.range 15).map fun i => if v.getMsbD i then '1' else '0'

/-- The three presentations of a CRC value, `RENDER(v)`. -/
structure Rendering where
  hex : List Char
  dec : List Char
  bin : List Char
deriving DecidableEq, Repr

/-- `RENDER(v)` (40_input_codec.md R78). -/
def render (v : Crc15) : Rendering :=
  { hex := renderHex v, dec := renderDec v, bin := renderBin v }

end Sys2Proof.Machine
end

