-- ==== Sys2Proof/Machine/Script.lean ====
section
/-! DEFINITION. The host-script notation: transactions and the pseudo-instructions with their expansions
(30_encoding.md R64, R65; 40_input_codec.md R76). -/

namespace Sys2Proof.Machine

/-- `WR <reg>, <value>` (30_encoding.md R64). -/
def wrLine (r : Reg) (v : Word) : HostLine :=
  .xfer (Txn.mk .write r.offset v)

/-- `RD <reg>` (30_encoding.md R64). -/
def rdLine (r : Reg) : HostLine :=
  .xfer (Txn.mk .read r.offset 0#32)

/-- `START <cmd>` (30_encoding.md R65). -/
def startLines (c : Command) : List HostLine :=
  [wrLine .ctrl (c.code.setWidth 32)]

/-- `SETITER <n>` (30_encoding.md R65). -/
def setIterLines (n : BitVec 64) : List HostLine :=
  [wrLine .iterLo (lowHalf n), wrLine .iterHi (highHalf n)]

/-- The packed word `d[n]`: `bits[i]` in bit `31 - (i mod 32)` for `i` from `32n`, and 0 at and beyond
the end of the sequence (40_input_codec.md R76). -/
def packWord (bits : List Bool) (n : Nat) : Word :=
  (List.range 32).foldl (fun acc i => acc <<< 1 ||| (BitVec.ofBool (bits.getD (32 * n + i) false)).setWidth 32) 0#32

/-- `LOADBITS <bits>`: the three data words, then the length (40_input_codec.md R76). -/
def loadBitsLines (bits : List Bool) : List HostLine :=
  [wrLine .data0 (packWord bits 0), wrLine .data1 (packWord bits 1),
   wrLine .data2 (packWord bits 2), wrLine .len (BitVec.ofNat 32 bits.length)]

/-- `LOADHEX "<text>"`: no transaction if the parse fails (30_encoding.md R65, 40_input_codec.md
R75). -/
def loadHexLines (text : List Char) : Except DecodeError (List HostLine) :=
  (parseHex text).map loadBitsLines

/-- `LOADBIN "<text>"` (30_encoding.md R65). -/
def loadBinLines (text : List Char) : Except DecodeError (List HostLine) :=
  (parseBin text).map loadBitsLines

/-- `POLL` (30_encoding.md R65). -/
def pollLines : List HostLine :=
  [.poll 0]

/-- `POLL`, then `reads` if the polled `STATUS` has `DONE == 1` (44_host_interface.md R163). -/
def collectLines (reads : List HostLine) : List HostLine :=
  .poll reads.length :: reads

/-- The source's `run_batch(bits, iterations)` as a host program (44_host_interface.md R163). -/
def runBatchLines (bits : List Bool) (n : BitVec 64) : List HostLine :=
  loadBitsLines bits ++ setIterLines n ++ startLines .runBatch
    ++ collectLines [rdLine .crc, rdLine .elapsedLo, rdLine .elapsedHi]

/-- The source's `crc_reference(bits)` and `crc_fast(bits, table)` as host programs
(44_host_interface.md R163). -/
def crcLines (c : Command) (bits : List Bool) : List HostLine :=
  loadBitsLines bits ++ startLines c ++ collectLines [rdLine .crc]

/-- The pair that reads one entry: `WR TBL_IDX, b`; `RD TBL_DATA`. -/
def entryLines (b : Nat) : List HostLine :=
  [wrLine .tblIdx (BitVec.ofNat 32 b), rdLine .tblData]

/-- The source's `build_table()` as a host program: the build, which the boundary never refuses, then the
256 pairs (44_host_interface.md R163). -/
def buildTableLines : List HostLine :=
  startLines .tblBuild ++ pollLines ++ (List.range 256).flatMap entryLines

/-- What the host takes from a call of these programs (44_host_interface.md R163). -/
inductive CallOutcome where
  /-- The polled `STATUS` had `DONE == 1`: the values read after it, in order. -/
  | result (values : List Word)
  /-- It had `ERR == 1`: the error is `ERRCODE`, and there is no result. -/
  | error (code : BitVec 3)
  /-- No value read has `BUSY == 0`, or the first that has shows neither flag, as after `Reset`. Log
  entry 19. -/
  | noOutcome
deriving DecidableEq, Repr

/-- The outcome of a call, from the values its reads have returned, oldest first: the polls up to the first
with `BUSY == 0`, then the reads that follow it (30_encoding.md R65, R52; 44_host_interface.md R163). -/
def callOutcome (values : List Word) : CallOutcome :=
  match values.dropWhile (·.getLsbD 0) with
  | [] => .noOutcome
  | status :: reads =>
    if status.getLsbD 1 then .result reads
    else if status.getLsbD 2 then .error (status.extractLsb' 4 3)
    else .noOutcome

/-- What `run_batch` returns: the CRC and the elapsed count. -/
structure BatchResult where
  crc     : Word
  elapsed : BitVec 64
deriving DecidableEq, Repr

/-- `run_batch`'s value from the three reads; `elapsed` is the count, whose unit is open
(90_conflicts.md C1). -/
def batchResult : List Word → Option BatchResult
  | [crc, lo, hi] => some { crc := crc, elapsed := ofHalves hi lo }
  | _ => none

end Sys2Proof.Machine
end

