-- ==== Sys2Proof/Safety.lean ====
section
/-! DEFINITION. What a safe run is: the invariant every step keeps, and the number of steps an accepted
command still needs. -/

namespace Sys2Proof.Machine

/-- The lengths a command runs on (44_host_interface.md R151). -/
def LengthAdmitted (s : State) : Prop :=
  1 ≤ s.len.toNat ∧ s.len.toNat ≤ Config.maxBits

/-- The iteration counts a batch runs on (44_host_interface.md R151). -/
def IterationsAdmitted (s : State) : Prop :=
  Config.iterMin ≤ s.iter.toNat ∧ s.iter.toNat ≤ Config.iterMax

/-- The cursor stands in the sequence, and the register holds the CRC of what has been consumed
(10_state.md R10, R19). -/
def PrefixConsumed (s : State) : Prop :=
  s.pos.toNat ≤ s.len.toNat ∧ s.reg = crcRef (s.sequence.take s.pos.toNat)

/-- The fast path's cursor stands at a byte boundary, or behind the last whole byte (20_memory.md
R35). -/
def CursorAligned (s : State) : Prop :=
  s.pos.toNat % 8 = 0 ∨ 8 * (s.len.toNat / 8) ≤ s.pos.toNat

/-- `CRC_REF` in progress. -/
def RefRunning (s : State) : Prop :=
  LengthAdmitted s ∧ (s.phase = .start ∨ (s.phase = .compute ∧ PrefixConsumed s))

/-- `CRC_FAST` in progress. -/
def FastRunning (s : State) : Prop :=
  LengthAdmitted s ∧
    (s.phase = .start ∨ (s.phase = .compute ∧ PrefixConsumed s ∧ CursorAligned s))

/-- One worker of a dispatched batch (43_batch_runner.md R124 to R127): it has its quota, its register
holds the CRC once it has done an iteration, and once it has finished its value is in the slot. -/
def WorkerRunning (s : State) (w : Nat) (k : Worker) : Prop :=
  k.quota.toNat = quota s.iter.toNat s.numWorkers w ∧
  k.count.toNat ≤ k.quota.toNat ∧
  (0 < k.count.toNat → k.reg = crcRef s.sequence) ∧
  (k.fin = true → k.count = k.quota ∧ s.result = crcWord (crcRef s.sequence))

/-- A single or sequential batch past its start (43_batch_runner.md R122, R123). -/
def LoopRunning (s : State) : Prop :=
  s.iter.toNat < Config.parThreshold ∧
    ((s.phase = .compute ∧ s.icnt.toNat < s.iter.toNat ∧ PrefixConsumed s ∧ CursorAligned s) ∨
     (s.phase = .finish ∧ s.icnt = s.iter ∧ s.reg = crcRef s.sequence))

/-- A parallel batch past its dispatch (43_batch_runner.md R125). -/
def PoolRunning (s : State) : Prop :=
  Config.parThreshold ≤ s.iter.toNat ∧ s.phase = .join ∧
    ∀ w k, s.workers[w]? = some k → WorkerRunning s w k

/-- `RUN_BATCH` in progress. -/
def BatchRunning (s : State) : Prop :=
  LengthAdmitted s ∧ IterationsAdmitted s ∧ (s.phase = .start ∨ LoopRunning s ∨ PoolRunning s)

/-- `TBL_BUILD` in progress. -/
def BuildRunning (s : State) : Prop :=
  s.phase = .start ∨ s.phase = .finish

/-- The latched code is a command's, and the command is in one of the states it passes through. -/
def Running (s : State) : Prop :=
  match commandOf s.op with
  | some .crcRef => RefRunning s
  | some .crcFast => FastRunning s
  | some .runBatch => BatchRunning s
  | some .tblBuild => BuildRunning s
  | none => False

/-- The invariant of the block. -/
structure Inv (s : State) : Prop where
  /-- `BUSY`, `DONE` and `ERR` are never two at once (10_state.md R14). -/
  flags : ¬ (s.busy = true ∧ s.done = true) ∧ ¬ (s.busy = true ∧ s.err = true) ∧
    ¬ (s.done = true ∧ s.err = true)
  /-- `ERRCODE` is a boundary error's code exactly while `ERR == 1`, and 0 otherwise (10_state.md
  R14, 60_exceptions.md R171). -/
  errCode : if s.err then ∃ e : BoundaryError, s.errCode = e.code else s.errCode = 0#3
  /-- Bit 15 of `RESULT` is 0 (10_state.md R26). -/
  resultTop : s.result.getLsbD 15 = false
  /-- `TBL[b] == TblEntry(b)` (10_state.md R13). -/
  table : s.tbl = canonTable
  /-- `1 <= W <= 65535` (00_scope.md R7). -/
  pool : 1 ≤ s.numWorkers ∧ s.numWorkers ≤ Config.maxWorkers
  /-- While `BUSY == 1` an accepted command is in progress. -/
  running : s.busy = true → Running s

/-- The micro-operations the fast path still takes from a cursor (42_crc_engine.md R103). -/
def fastMicros (pos len : Nat) : Nat :=
  if pos + 8 ≤ len then (len / 8 - pos / 8) + len % 8 else len - pos

/-- The steps a worker still takes: its iterations and its final step (43_batch_runner.md R126). -/
def Worker.stepsLeft (k : Worker) : Nat :=
  if k.fin then 0 else k.quota.toNat - k.count.toNat + 1

/-- The steps `CRC_REF` still takes (42_crc_engine.md R110). -/
def refStepsLeft (s : State) : Nat :=
  match s.phase with
  | .start => s.len.toNat + 2
  | .compute => s.len.toNat - s.pos.toNat + 1
  | .finish => 0
  | .join => 0

/-- The steps `CRC_FAST` still takes. -/
def fastStepsLeft (s : State) : Nat :=
  match s.phase with
  | .start => fastMicros 0 s.len.toNat + 2
  | .compute => fastMicros s.pos.toNat s.len.toNat + 1
  | .finish => 0
  | .join => 0

/-- The steps `RUN_BATCH` still takes, of `ENG` and of the workers together (43_batch_runner.md R123,
R126, R132). -/
def batchStepsLeft (s : State) : Nat :=
  let one := fastMicros 0 s.len.toNat + 1
  match s.phase with
  | .start =>
    match batchPath s.iter.toNat with
    | .single => s.iter.toNat * one + 2
    | .sequential => s.iter.toNat * one + 2
    | .parallel => s.iter.toNat + s.numWorkers + 2
  | .compute =>
    fastMicros s.pos.toNat s.len.toNat + 1 + (s.iter.toNat - s.icnt.toNat - 1) * one + 1
  | .finish => 1
  | .join => (s.workers.map Worker.stepsLeft).sum + 1

/-- The steps `TBL_BUILD` still takes. -/
def buildStepsLeft (s : State) : Nat :=
  match s.phase with
  | .start => 2
  | .compute => 0
  | .finish => 1
  | .join => 0

/-- How many steps of `ENG` and of the workers the accepted command still takes; 0 while idle
(43_batch_runner.md R132, 70_reset_and_hazards.md R204). -/
def stepsLeft (s : State) : Nat :=
  if s.busy then
    match commandOf s.op with
    | some .crcRef => refStepsLeft s
    | some .crcFast => fastStepsLeft s
    | some .runBatch => batchStepsLeft s
    | some .tblBuild => buildStepsLeft s
    | none => 0
  else 0

/-- The agents a running command waits for. -/
def isAgentTurn : Turn → Bool
  | .host => false
  | .eng => true
  | .wrk _ => true
  | .reset => false

/-- The step an agent behind the boundary takes when its turn comes. -/
def agentStep : Turn → State → State
  | .host, s => s
  | .eng, s => engStep s
  | .wrk w, s => workerStep w s
  | .reset, s => s

/-- The agent has a step enabled: its turn would change the state (70_reset_and_hazards.md R204). -/
def CanStep (a : Turn) (s : State) : Prop :=
  agentStep a s ≠ s

end Sys2Proof.Machine
end

