-- ==== Sys2Proof/Certificates/Slice0/Obligations.lean ====
section
/-! DEFINITION. The statements for the provers. -/

open Sys2Proof Sys2Proof.Machine

/-- Decode undoes encode on every well-formed instruction (30_encoding.md R50, R51, R66). -/
def Obligations.DecodeUndoesEncode : Prop :=
  ∀ i : Instr, WellFormed i → decode (encode i) = i

/-- Encode undoes decode on every word, up to the ignored data of a read (30_encoding.md R50). -/
def Obligations.EncodeUndoesDecode : Prop :=
  ∀ x : Txn, WellFormed (decode x) ∧
    encode (decode x) = Txn.mk x.dir x.off (match x.dir with | .read => 0#32 | .write => x.data) ∧
    x = Txn.mk x.dir x.off x.data

/-- The rows are disjoint and cover every word, and decode picks the row that covers it (30_encoding.md R66). -/
def Obligations.OpcodeRowsDisjointAndTotal : Prop :=
  ∀ x : Txn, opcodeRows.filter (fun row => row.covers x) = [(decode x).row]

/-- Words the spec writes out decode to the transactions it writes beside them (95_test_vectors.md sections 8, 9). -/
def Obligations.SpecWordsDecode : Prop :=
  decode 0x11431323334#41 = .wrData0 0x31323334#32 ∧
  decode 0x10800000048#41 = .wrLen 0x48#32 ∧
  decode 0x10000000001#41 = .crcRef 0#28 ∧
  decode 0x00400000000#41 = .rdStatus ∧
  decode 0x02000000000#41 = .rdCrc ∧
  decode 0x02400000000#41 = .rdElapsedLo ∧
  decode 0x130000000AB#41 = .wrTblIdx 0xAB#32 ∧
  decode 0x03400000000#41 = .rdTblData ∧
  decode 0x10C000186A0#41 = .wrIterLo 0x186A0#32 ∧
  decode 0x11000000000#41 = .wrIterHi 0#32 ∧
  decode 0x02C00000000#41 = .rdNWorkers ∧
  decode 0x10000000005#41 = .reservedOp5 0#28 ∧
  decode 0x100FFFFFFF0#41 = .reservedOp0 0xFFFFFFF#28 ∧
  decode 0x10000000013#41 = .runBatch 1#28

/-- A step is one step of the agent whose turn it is; the host's step runs the decoded transaction (44_host_interface.md R140, 60_exceptions.md R177). The turns, the script and withFetchWord are the model's own: log entries 2, 5 and 19. -/
def Obligations.StepIsOneAgentsStep : Prop :=
  (∀ (s : State) (x : Txn) (rest : List HostLine), nextTurn s = .host → s.script = .xfer x :: rest →
    step s = exec (decode x) { takeTurn s with script := rest }) ∧
  (∀ (s : State) (n : Nat) (rest : List HostLine), nextTurn s = .host →
    s.script = .poll n :: rest → step s = exec .rdStatus { takeTurn s with
      script := if s.busy then .poll n :: rest else if s.done then rest else rest.drop n }) ∧
  (∀ s : State, nextTurn s = .host → s.script = [] → step s = .next (takeTurn s)) ∧
  (∀ s : State, nextTurn s = .eng → step s = .next (engStep (takeTurn s))) ∧
  (∀ (s : State) (w : Nat), nextTurn s = .wrk w → step s = .next (workerStep w (takeTurn s))) ∧
  (∀ s : State, nextTurn s = .reset → step s = .next (resetEvent (takeTurn s))) ∧
  (∀ (s : State) (x : Txn), step (s.withFetchWord 41 x.toNat) = exec (decode x) s)

/-- 30_encoding.md R56: the twelve reserved codes. -/
def Obligations.ReservedCodesRefused : Prop :=
  ∀ (s : State) (ig : BitVec 28), s.busy = false →
    ∀ i ∈ [Instr.reservedOp0 ig, .reservedOp5 ig, .reservedOp6 ig, .reservedOp7 ig, .reservedOp8
        ig, .reservedOp9 ig, .reservedOpA ig, .reservedOpB ig, .reservedOpC ig, .reservedOpD
        ig, .reservedOpE ig, .reservedOpF ig],
      exec i s = .next { s with done := false, err := true, errCode := 7#3 }

/-- 44_host_interface.md R150 to R152: acceptance. The phase is the model's own: log entry 3. -/
def Obligations.CommandsAccepted : Prop :=
  ∀ (s : State) (ig : BitVec 28), s.busy = false →
    (1 ≤ s.len.toNat → s.len.toNat ≤ 96 → exec (.crcRef ig) s = .next { s with
      op := 1#4, busy := true, done := false, err := false, errCode := 0#3, phase := .start }) ∧
    (1 ≤ s.len.toNat → s.len.toNat ≤ 96 → exec (.crcFast ig) s = .next { s with
      op := 2#4, busy := true, done := false, err := false, errCode := 0#3, phase := .start }) ∧
    (1 ≤ s.len.toNat → s.len.toNat ≤ 96 → 1 ≤ s.iter.toNat → s.iter.toNat ≤ 1000000000 →
      exec (.runBatch ig) s = .next { s with
        op := 3#4, busy := true, done := false, err := false, errCode := 0#3, phase := .start }) ∧
    exec (.tblBuild ig) s = .next { s with
      op := 4#4, busy := true, done := false, err := false, errCode := 0#3, phase := .start }

/-- 44_host_interface.md R151, R154 and 60_exceptions.md R172: the checks, their order and the refusal. -/
def Obligations.BadInputRefusedInOrder : Prop :=
  ∀ (s : State) (ig : BitVec 28), s.busy = false →
    (s.len.toNat = 0 → ∀ i ∈ [Instr.crcRef ig, .crcFast ig, .runBatch ig],
      exec i s = .next { s with done := false, err := true, errCode := 1#3 }) ∧
    (96 < s.len.toNat → ∀ i ∈ [Instr.crcRef ig, .crcFast ig, .runBatch ig],
      exec i s = .next { s with done := false, err := true, errCode := 4#3 }) ∧
    (1 ≤ s.len.toNat → s.len.toNat ≤ 96 → (s.iter.toNat < 1 ∨ 1000000000 < s.iter.toNat) →
      exec (.runBatch ig) s = .next { s with done := false, err := true, errCode := 5#3 })

/-- 44_host_interface.md R161: a CTRL write while busy. -/
def Obligations.BusyCtrlWriteIgnored : Prop :=
  ∀ (s : State) (ig : BitVec 28), s.busy = true →
    ∀ i ∈ [Instr.crcRef ig, .crcFast ig, .runBatch ig, .tblBuild ig, .reservedOp0 ig, .reservedOp5
        ig, .reservedOp6 ig, .reservedOp7 ig, .reservedOp8 ig, .reservedOp9 ig, .reservedOpA
        ig, .reservedOpB ig, .reservedOpC ig, .reservedOpD ig, .reservedOpE ig, .reservedOpF
        ig],
      exec i s = .next s

/-- 44_host_interface.md R144: the write of LEN. -/
def Obligations.LenWriteKeepsSevenBits : Prop :=
  ∀ (s : State) (v : Word),
    (s.busy = false →
      exec (.wrLen v) s = .next { s with len := BitVec.ofNat 7 (v.toNat % 128) }) ∧
    (s.busy = true → exec (.wrLen v) s = .next s)

/-- 44_host_interface.md R145, R146: the writes of the halves of ITER. -/
def Obligations.IterHalvesWrite : Prop :=
  ∀ (s : State) (v : Word),
    (s.busy = false →
      exec (.wrIterLo v) s = .next { s with
        iter := BitVec.ofNat 64 (s.iter.toNat / 2 ^ 32 * 2 ^ 32 + v.toNat) }) ∧
    (s.busy = false →
      exec (.wrIterHi v) s = .next { s with
        iter := BitVec.ofNat 64 (v.toNat * 2 ^ 32 + s.iter.toNat % 2 ^ 32) }) ∧
    (s.busy = true → exec (.wrIterLo v) s = .next s ∧ exec (.wrIterHi v) s = .next s)

/-- 44_host_interface.md R147: the write of DATAn. -/
def Obligations.DataWriteSetsItsCells : Prop :=
  ∀ (s : State) (v : Word) (n : Nat) (i : Instr),
    (n, i) ∈ [(0, Instr.wrData0 v), (1, .wrData1 v), (2, .wrData2 v)] →
    (s.busy = false → ∃ cells : BitVec 96, exec i s = .next { s with bits := cells } ∧
      (∀ j < 32, cellOf cells (32 * n + 31 - j) = v.getLsbD j) ∧
      (∀ e < 96, e / 32 ≠ n → cellOf cells e = cellOf s.bits e)) ∧
    (s.busy = true → exec i s = .next s)

/-- 44_host_interface.md R148: the write of TBL_IDX. -/
def Obligations.TblIdxWriteAtAnyTime : Prop :=
  ∀ (s : State) (v : Word),
    exec (.wrTblIdx v) s = .next { s with tblIdx := BitVec.ofNat 8 (v.toNat % 256) }

/-- 44_host_interface.md R159, R160: writes that change nothing. -/
def Obligations.ReadOnlyAndReservedWritesIgnored : Prop :=
  ∀ (s : State) (v : Word) (off : Offset),
    ∀ i ∈ [Instr.wrStatus v, .wrCrc v, .wrElapsedLo v, .wrElapsedHi v, .wrNWorkers v, .wrTblData v,
        .wrReserved38 off v, .wrReserved40 off v, .wrReserved80 off v],
      exec i s = .next s

/-- 44_host_interface.md R143: a read returns the value last written, and a write of one register shows in no other. -/
def Obligations.ReadBackAfterWrite : Prop :=
  ∀ (s : State) (v : Word), s.busy = false →
    ∀ a ∈ [(Instr.wrLen v, Instr.rdLen, BitVec.ofNat 32 (v.toNat % 128)),
        (.wrIterLo v, .rdIterLo, v), (.wrIterHi v, .rdIterHi, v), (.wrData0 v, .rdData0, v),
        (.wrData1 v, .rdData1, v), (.wrData2 v, .rdData2, v),
        (.wrTblIdx v, .rdTblIdx, BitVec.ofNat 32 (v.toNat % 256))],
      ∃ t : State, exec a.1 s = .next t ∧
        (∃ u : State, exec a.2.1 t = .next u ∧ u.returned = a.2.2 :: s.returned) ∧
        ∀ r ∈ [Instr.rdLen, .rdIterLo, .rdIterHi, .rdData0, .rdData1, .rdData2, .rdTblIdx],
          r ≠ a.2.1 → ∃ u u' : State, exec r t = .next u ∧ exec r s = .next u' ∧
            u.returned = u'.returned

/-- 44_host_interface.md R142, 30_encoding.md R52: the read of STATUS. -/
def Obligations.StatusReadShowsTheFlags : Prop :=
  ∀ s : State, ∃ w : Word, exec .rdStatus s = .next { s with returned := w :: s.returned } ∧
    w.getLsbD 0 = s.busy ∧ w.getLsbD 1 = s.done ∧ w.getLsbD 2 = s.err ∧
    (∀ j < 3, w.getLsbD (4 + j) = s.errCode.getLsbD j) ∧
    w.getLsbD 3 = false ∧ ∀ j, 7 ≤ j → w.getLsbD j = false

/-- 44_host_interface.md R143: the reads of the input registers and of TBL_IDX. -/
def Obligations.InputRegisterReads : Prop :=
  ∀ s : State,
    exec .rdLen s = .next { s with returned := BitVec.ofNat 32 s.len.toNat :: s.returned } ∧
    exec .rdIterLo s = .next { s with
      returned := BitVec.ofNat 32 (s.iter.toNat % 2 ^ 32) :: s.returned } ∧
    exec .rdIterHi s = .next { s with
      returned := BitVec.ofNat 32 (s.iter.toNat / 2 ^ 32) :: s.returned } ∧
    exec .rdTblIdx s = .next { s with returned := BitVec.ofNat 32 s.tblIdx.toNat :: s.returned } ∧
    ∀ (n : Nat) (i : Instr), (n, i) ∈ [(0, Instr.rdData0), (1, .rdData1), (2, .rdData2)] →
      ∃ w : Word, exec i s = .next { s with returned := w :: s.returned } ∧
        ∀ j < 32, w.getLsbD j = cellOf s.bits (32 * n + 31 - j)

/-- 44_host_interface.md R149: the read of the table. That the table holds its constant contents is part of the invariant. -/
def Obligations.TblDataReadsTheEntry : Prop :=
  ∀ s : State, s.tbl = canonTable →
    exec .rdTblData s = .next { s with
      returned := BitVec.ofNat 32 (tblEntry s.tblIdx).toNat :: s.returned }

/-- 44_host_interface.md R155, R156: the read of CRC. The draw and its counter: log entries 7 and 8. -/
def Obligations.CrcReadIdleAndBusy : Prop :=
  ∀ s : State,
    (s.busy = false →
      exec .rdCrc s = .next { s with returned := BitVec.ofNat 32 s.result.toNat :: s.returned }) ∧
    (s.busy = true → exec .rdCrc s = .next { s with
      returned := Config.busyCrcDraw s.draws :: s.returned, draws := s.draws + 1 })

/-- 44_host_interface.md R157, R158: the reads of ELAPSED and of NWORKERS. -/
def Obligations.ElapsedAndPoolReads : Prop :=
  ∀ s : State,
    exec .rdElapsedLo s = .next { s with
      returned := BitVec.ofNat 32 (s.elapsed.toNat % 2 ^ 32) :: s.returned } ∧
    exec .rdElapsedHi s = .next { s with
      returned := BitVec.ofNat 32 (s.elapsed.toNat / 2 ^ 32) :: s.returned } ∧
    (1 ≤ s.workers.length → s.workers.length ≤ 65535 →
      exec .rdNWorkers s = .next { s with
        returned := BitVec.ofNat 32 s.workers.length :: s.returned })

/-- 44_host_interface.md R141, R160: reads that return 0. -/
def Obligations.CtrlAndReservedReadsZero : Prop :=
  ∀ (s : State) (off : Offset),
    ∀ i ∈ [Instr.rdCtrl, .rdReserved38 off, .rdReserved40 off, .rdReserved80 off],
      exec i s = .next { s with returned := 0#32 :: s.returned }

/-- 20_memory.md R36: the misaligned transaction, and no other, is refused. -/
def Obligations.MisalignedRefused : Prop :=
  ∀ (x : Txn) (s : State),
    (x.off.toNat % 4 ≠ 0 → exec (decode x) s = .refused .misalignedOffset) ∧
    (x.off.toNat % 4 = 0 → ∃ t : State, exec (decode x) s = .next t)

/-- 42_crc_engine.md R100: the bit-serial step as numbers. -/
def Obligations.BitStepInNumbers : Prop :=
  ∀ (r : Crc15) (n : Bool),
    (bitStep r n).toNat =
      (2 * r.toNat % 2 ^ 15) ^^^ (if n = decide (2 ^ 14 ≤ r.toNat) then 0 else 0x4599)

/-- 42_crc_engine.md R105: linearity. -/
def Obligations.CrcIsLinear : Prop :=
  (∀ (r s : Crc15) (n m : Bool),
    bitStep (r ^^^ s) (Bool.xor n m) = bitStep r n ^^^ bitStep s m) ∧
  bitStep 0#15 false = 0#15 ∧
  (∀ a b : List Bool, a.length = b.length →
    crcRef (List.zipWith Bool.xor a b) = crcRef a ^^^ crcRef b) ∧
  (∀ n : Nat, crcRef (List.replicate n false) = 0#15)

/-- 41_crc_table.md R93: the laws of the table. -/
def Obligations.TableIsLinearAndDistinct : Prop :=
  (∀ a b : BitVec 8, tblEntry (a ^^^ b) = tblEntry a ^^^ tblEntry b) ∧
  tblEntry 0#8 = 0#15 ∧
  [0x01#8, 0x02#8, 0x04#8, 0x08#8, 0x10#8, 0x20#8, 0x40#8, 0x80#8].map tblEntry =
    [0x4599#15, 0x4EAB#15, 0x58CF#15, 0x7407#15, 0x2D97#15, 0x5B2E#15, 0x73C5#15, 0x2213#15] ∧
  (∀ a b : BitVec 8, tblEntry a = tblEntry b → a = b) ∧
  (∀ b : BitVec 8, tableAt State.reset.tbl b = tblEntry b)

/-- 41_crc_table.md R94: the 256 values. -/
def Obligations.TableHoldsTheListedValues : Prop :=
  State.reset.tbl.toList =
    [0x0000#15, 0x4599#15, 0x4EAB#15, 0x0B32#15, 0x58CF#15, 0x1D56#15, 0x1664#15, 0x53FD#15,
      0x7407#15, 0x319E#15, 0x3AAC#15, 0x7F35#15, 0x2CC8#15, 0x6951#15, 0x6263#15, 0x27FA#15] ++
    [0x2D97#15, 0x680E#15, 0x633C#15, 0x26A5#15, 0x7558#15, 0x30C1#15, 0x3BF3#15, 0x7E6A#15,
      0x5990#15, 0x1C09#15, 0x173B#15, 0x52A2#15, 0x015F#15, 0x44C6#15, 0x4FF4#15, 0x0A6D#15] ++
    [0x5B2E#15, 0x1EB7#15, 0x1585#15, 0x501C#15, 0x03E1#15, 0x4678#15, 0x4D4A#15, 0x08D3#15,
      0x2F29#15, 0x6AB0#15, 0x6182#15, 0x241B#15, 0x77E6#15, 0x327F#15, 0x394D#15, 0x7CD4#15] ++
    [0x76B9#15, 0x3320#15, 0x3812#15, 0x7D8B#15, 0x2E76#15, 0x6BEF#15, 0x60DD#15, 0x2544#15,
      0x02BE#15, 0x4727#15, 0x4C15#15, 0x098C#15, 0x5A71#15, 0x1FE8#15, 0x14DA#15, 0x5143#15] ++
    [0x73C5#15, 0x365C#15, 0x3D6E#15, 0x78F7#15, 0x2B0A#15, 0x6E93#15, 0x65A1#15, 0x2038#15,
      0x07C2#15, 0x425B#15, 0x4969#15, 0x0CF0#15, 0x5F0D#15, 0x1A94#15, 0x11A6#15, 0x543F#15] ++
    [0x5E52#15, 0x1BCB#15, 0x10F9#15, 0x5560#15, 0x069D#15, 0x4304#15, 0x4836#15, 0x0DAF#15,
      0x2A55#15, 0x6FCC#15, 0x64FE#15, 0x2167#15, 0x729A#15, 0x3703#15, 0x3C31#15, 0x79A8#15] ++
    [0x28EB#15, 0x6D72#15, 0x6640#15, 0x23D9#15, 0x7024#15, 0x35BD#15, 0x3E8F#15, 0x7B16#15,
      0x5CEC#15, 0x1975#15, 0x1247#15, 0x57DE#15, 0x0423#15, 0x41BA#15, 0x4A88#15, 0x0F11#15] ++
    [0x057C#15, 0x40E5#15, 0x4BD7#15, 0x0E4E#15, 0x5DB3#15, 0x182A#15, 0x1318#15, 0x5681#15,
      0x717B#15, 0x34E2#15, 0x3FD0#15, 0x7A49#15, 0x29B4#15, 0x6C2D#15, 0x671F#15, 0x2286#15] ++
    [0x2213#15, 0x678A#15, 0x6CB8#15, 0x2921#15, 0x7ADC#15, 0x3F45#15, 0x3477#15, 0x71EE#15,
      0x5614#15, 0x138D#15, 0x18BF#15, 0x5D26#15, 0x0EDB#15, 0x4B42#15, 0x4070#15, 0x05E9#15] ++
    [0x0F84#15, 0x4A1D#15, 0x412F#15, 0x04B6#15, 0x574B#15, 0x12D2#15, 0x19E0#15, 0x5C79#15,
      0x7B83#15, 0x3E1A#15, 0x3528#15, 0x70B1#15, 0x234C#15, 0x66D5#15, 0x6DE7#15, 0x287E#15] ++
    [0x793D#15, 0x3CA4#15, 0x3796#15, 0x720F#15, 0x21F2#15, 0x646B#15, 0x6F59#15, 0x2AC0#15,
      0x0D3A#15, 0x48A3#15, 0x4391#15, 0x0608#15, 0x55F5#15, 0x106C#15, 0x1B5E#15, 0x5EC7#15] ++
    [0x54AA#15, 0x1133#15, 0x1A01#15, 0x5F98#15, 0x0C65#15, 0x49FC#15, 0x42CE#15, 0x0757#15,
      0x20AD#15, 0x6534#15, 0x6E06#15, 0x2B9F#15, 0x7862#15, 0x3DFB#15, 0x36C9#15, 0x7350#15] ++
    [0x51D6#15, 0x144F#15, 0x1F7D#15, 0x5AE4#15, 0x0919#15, 0x4C80#15, 0x47B2#15, 0x022B#15,
      0x25D1#15, 0x6048#15, 0x6B7A#15, 0x2EE3#15, 0x7D1E#15, 0x3887#15, 0x33B5#15, 0x762C#15] ++
    [0x7C41#15, 0x39D8#15, 0x32EA#15, 0x7773#15, 0x248E#15, 0x6117#15, 0x6A25#15, 0x2FBC#15,
      0x0846#15, 0x4DDF#15, 0x46ED#15, 0x0374#15, 0x5089#15, 0x1510#15, 0x1E22#15, 0x5BBB#15] ++
    [0x0AF8#15, 0x4F61#15, 0x4453#15, 0x01CA#15, 0x5237#15, 0x17AE#15, 0x1C9C#15, 0x5905#15,
      0x7EFF#15, 0x3B66#15, 0x3054#15, 0x75CD#15, 0x2630#15, 0x63A9#15, 0x689B#15, 0x2D02#15] ++
    [0x276F#15, 0x62F6#15, 0x69C4#15, 0x2C5D#15, 0x7FA0#15, 0x3A39#15, 0x310B#15, 0x7492#15,
      0x5368#15, 0x16F1#15, 0x1DC3#15, 0x585A#15, 0x0BA7#15, 0x4E3E#15, 0x450C#15, 0x0095#15]

/-- 41_crc_table.md R92: the second characterisation of the table. -/
def Obligations.TableEntryIsCrcOfItsByte : Prop :=
  ∀ b : BitVec 8, crcRef (bitsOfByte b) = tblEntry b

/-- 42_crc_engine.md R104: the engine's core correctness contract, with the lemma it rests on. -/
def Obligations.FastPathEqualsReference : Prop :=
  (∀ bits : List Bool, crcFast canonTable bits = crcRef bits) ∧
  (∀ (r : Crc15) (b7 b6 b5 b4 b3 b2 b1 b0 : Bool),
    byteStep canonTable r (byteOfBits [b7, b6, b5, b4, b3, b2, b1, b0]) =
      bitStep (bitStep (bitStep (bitStep (bitStep (bitStep (bitStep (bitStep r b7) b6) b5) b4)
        b3) b2) b1) b0)

/-- 42_crc_engine.md R106, R108: empty and zero input. -/
def Obligations.LeadingZerosDoNotShow : Prop :=
  crcRef [] = 0#15 ∧ crcFast canonTable [] = 0#15 ∧
  ∀ (n : Nat) (s : List Bool), crcRef (List.replicate n false ++ s) = crcRef s

/-- 42_crc_engine.md R109: the residue. -/
def Obligations.ResidueIsZero : Prop :=
  ∀ s : List Bool, crcRef (s ++ (List.range 15).map (fun i => (crcRef s).getLsbD (14 - i))) = 0#15

/-- 43_batch_runner.md R121: the dispatch. -/
def Obligations.BatchPathBoundaries : Prop :=
  ∀ n : Nat, 1 ≤ n →
    (batchPath n = .single ↔ n = 1) ∧
    (batchPath n = .sequential ↔ 2 ≤ n ∧ n ≤ 99999) ∧
    (batchPath n = .parallel ↔ 100000 ≤ n)

/-- 43_batch_runner.md R124: the laws of the quota. -/
def Obligations.QuotasSplitEvenly : Prop :=
  ∀ n w : Nat, 1 ≤ n → 1 ≤ w →
    ((List.range w).map (quota n w)).sum = n ∧
    (∀ i < w, quota n w i = n / w + if i < n % w then 1 else 0) ∧
    (100000 ≤ n → w ≤ 65535 → ∀ i < w, 1 ≤ quota n w i)

/-- 43_batch_runner.md R125: the dispatch. The phase is the model's own: log entry 3. -/
def Obligations.ParallelDispatchSetsTheWorkers : Prop :=
  ∀ s : State, s.busy = true → s.op = 3#4 → s.phase = .start → 100000 ≤ s.iter.toNat →
    ∃ ws : List Worker, engStep s = { s with workers := ws, phase := .join } ∧
      ws.length = s.workers.length ∧
      ∀ (w : Nat) (k : Worker), s.workers[w]? = some k → ws[w]? = some { k with
        quota := BitVec.ofNat 64 (s.iter.toNat / s.workers.length +
          if w < s.iter.toNat % s.workers.length then 1 else 0),
        count := 0#64, fin := false }

/-- 43_batch_runner.md R126, R127: the worker's steps. The phase is the model's own: log entry 3. -/
def Obligations.WorkerStepsChangeOnlyTheirOwn : Prop :=
  ∀ (s : State) (w : Nat) (k : Worker), s.busy = true → s.op = 3#4 → s.phase = .join →
    s.workers[w]? = some k →
    ∃ (k' : Worker) (result' : BitVec 16),
      workerStep w s = { s with workers := s.workers.set w k', result := result' } ∧
      (k.fin = false → k.count.toNat < k.quota.toNat →
        k' = { k with reg := crcFast s.tbl s.sequence, count := k.count + 1#64 } ∧
        result' = s.result) ∧
      (k.fin = false → k.count = k.quota →
        k' = { k with fin := true } ∧
        (0 < k.quota.toNat → result'.toNat = k.reg.toNat) ∧
        (k.quota.toNat = 0 → result' = s.result)) ∧
      (k.fin = true → k' = k ∧ result' = s.result)

/-- 43_batch_runner.md R128 and 60_exceptions.md R184: the join, and when the agents behind the boundary have steps. -/
def Obligations.AgentsStepOnlyInTheirTime : Prop :=
  (∀ s : State, s.busy = true → s.op = 3#4 → s.phase = .join →
    ((∃ k ∈ s.workers, k.fin = false) → engStep s = s) ∧
    ((∀ k ∈ s.workers, k.fin = true) → engStep s = { s with
      busy := false, done := true,
      elapsed := Config.elapsedDraw s.draws, draws := s.draws + 1 })) ∧
  (∀ (s : State) (w : Nat),
    s.busy = false ∨ s.op ≠ 3#4 ∨ s.phase ≠ .join ∨ s.workers.length ≤ w →
    workerStep w s = s) ∧
  (∀ s : State, s.busy = false → engStep s = s)

/-- 20_memory.md R41, 43_batch_runner.md R129: no ordering is required between workers. -/
def Obligations.WorkersCommute : Prop :=
  ∀ (s : State) (v w : Nat), Inv s → v ≠ w →
    workerStep v (workerStep w s) = workerStep w (workerStep v s)

/-- The invariant at reset (10_state.md R25). -/
def Obligations.ResetMeetsTheInvariant : Prop :=
  Inv State.reset

/-- The invariant is inductive over every step of every agent. -/
def Obligations.StepKeepsTheInvariant : Prop :=
  ∀ s t : State, Inv s → step s = .next t → Inv t

/-- 43_batch_runner.md R129, 42_crc_engine.md R102 to R104: what a completed command returns. -/
def Obligations.CompletedCommandHoldsTheCrc : Prop :=
  ∀ s t : State, Inv s → s.busy = true → s.op ∈ [1#4, 2#4, 3#4] → step s = .next t →
    t.busy = false → t.done = true →
    t.result.toNat = (crcRef s.sequence).toNat ∧ t.sequence = s.sequence

/-- 41_crc_table.md R91: TBL_BUILD. The grain of its steps is the model's: log entry 4. -/
def Obligations.BuildRestoresTheTableOnly : Prop :=
  ∀ s : State, s.busy = true → s.op = 4#4 → s.phase = .start →
    ∃ table : Table, engStep (engStep s) = { s with
      busy := false, done := true, tbl := table, phase := .finish } ∧
      ∀ b : BitVec 8, tableAt table b = tblEntry b

/-- 43_batch_runner.md R128, R132: no deadlock, no livelock. The count of steps is over the model's grain: log entry 4. -/
def Obligations.RunningCommandIsNeverStuck : Prop :=
  ∀ s : State, Inv s → s.busy = true →
    ∃ a : Turn, (a = .eng ∨ ∃ w < s.numWorkers, a = .wrk w) ∧
      ∀ rest : List Turn, ∃ t : State, step { s with turns := a :: rest } = .next t ∧
        stepsLeft t + 1 = stepsLeft s

/-- 43_batch_runner.md R132: a batch runs to completion once started. -/
def Obligations.StepsLeftNeverGrow : Prop :=
  ∀ s t : State, Inv s → s.busy = true → step s = .next t →
    stepsLeft t ≤ stepsLeft s ∧ (stepsLeft t = 0 → t.busy = false)

/-- 42_crc_engine.md R110, 43_batch_runner.md R123: the sequential paths run to completion. The grain, the turns and ICNT on the single path are the model's: log entries 4, 2 and 12. -/
def Obligations.EngineAloneCompletes : Prop :=
  ∀ (s : State) (rest : List Turn), Inv s → s.busy = true →
    (s.op = 3#4 → s.iter.toNat < 100000) →
    s.turns = List.replicate (stepsLeft s) Turn.eng ++ rest →
    ∃ t : State, core.run (stepsLeft s) s = .next t ∧ t.busy = false ∧ t.done = true ∧
      t.turns = rest ∧
      (s.op ≠ 4#4 → t.result.toNat = (crcRef s.sequence).toNat) ∧
      (s.op = 3#4 → t.icnt = s.iter)

/-- 42_crc_engine.md R103, R110, 43_batch_runner.md R123, R126, 70_reset_and_hazards.md R205: which steps a command takes, and when it ends. The grain and the phase are the model's: log entries 4 and 3. -/
def Obligations.CommandStepCounts : Prop :=
  ∀ s : State, s.busy = true → s.phase = .start → s.len.toNat ≤ 96 →
    let bytes := s.len.toNat / 8
    let trailing := s.len.toNat % 8
    (s.op = 1#4 →
      stepsLeft s = s.len.toNat + 2 ∧
      engStep s = beginComputation s ∧
      (∀ k < s.len.toNat, engStep^[k + 2] s = bitMicro (engStep^[k + 1] s)) ∧
      (∀ k ≤ s.len.toNat + 1, (engStep^[k] s).busy = true) ∧
      (engStep^[s.len.toNat + 2] s).busy = false ∧ (engStep^[s.len.toNat + 2] s).done = true) ∧
    (s.op = 2#4 →
      stepsLeft s = bytes + trailing + 2 ∧
      engStep s = beginComputation s ∧
      (∀ k < bytes, engStep^[k + 2] s = byteMicro (engStep^[k + 1] s)) ∧
      (∀ k, bytes ≤ k → k < bytes + trailing → engStep^[k + 2] s = bitMicro (engStep^[k + 1] s)) ∧
      (∀ k ≤ bytes + trailing + 1, (engStep^[k] s).busy = true) ∧
      (engStep^[bytes + trailing + 2] s).busy = false ∧
      (engStep^[bytes + trailing + 2] s).done = true ∧
      bytes + trailing ≤ 18 ∧ (bytes + trailing = 18 ↔ s.len.toNat = 95)) ∧
    (s.op = 3#4 → 1 ≤ s.iter.toNat → s.iter.toNat < 100000 →
      stepsLeft s = s.iter.toNat * (bytes + trailing + 1) + 2 ∧
      (∀ k < stepsLeft s, (engStep^[k] s).busy = true) ∧
      (engStep^[stepsLeft s] s).busy = false ∧ (engStep^[stepsLeft s] s).done = true) ∧
    (s.op = 3#4 → 100000 ≤ s.iter.toNat →
      stepsLeft s = s.iter.toNat + s.numWorkers + 2 ∧
      ∀ w < s.numWorkers, ∀ j : Nat, ∃ k : Worker,
        ((workerStep w)^[j] (engStep s)).workers[w]? = some k ∧
        k.quota.toNat = quota s.iter.toNat s.numWorkers w ∧
        k.count.toNat = min j k.quota.toNat ∧ (k.fin = true ↔ k.quota.toNat < j))

/-- 70_reset_and_hazards.md R204: under weak fairness BUSY returns to 0, and 43_batch_runner.md R129 with it. The turns and the grain are the model's: log entries 2 and 4. -/
def Obligations.FairScheduleCompletes : Prop :=
  ∀ (s : State) (rounds : List (List Turn)) (rest : List Turn), Inv s → s.busy = true →
    (∀ x : Txn, HostLine.xfer x ∈ s.script → x.off.toNat % 4 = 0) →
    rounds.length = stepsLeft s →
    (∀ r ∈ rounds, Turn.reset ∉ r) →
    (∀ (i : Nat) (r : List Turn) (t : State), rounds[i]? = some r →
      core.run (rounds.take i).flatten.length s = .next t → t.busy = true →
      ∀ a : Turn, CanStep a t → a ∈ r) →
    s.turns = rounds.flatten ++ rest →
    ∃ (n : Nat) (t : State), n ≤ rounds.flatten.length ∧ core.run n s = .next t ∧
      t.busy = false ∧ t.done = true ∧
      (s.op ≠ 4#4 → t.result.toNat = (crcRef s.sequence).toNat)

/-- 20_memory.md R44: input stability. -/
def Obligations.InputStableWhileBusy : Prop :=
  ∀ s t : State, s.busy = true → nextTurn s ≠ .reset → step s = .next t →
    t.bits = s.bits ∧ t.len = s.len ∧ t.iter = s.iter ∧ t.op = s.op

/-- 10_state.md R11: the cells at and beyond LEN are ignored by every operation. -/
def Obligations.CellsBeyondLenIgnored : Prop :=
  ∀ (s : State) (b : BitVec 96), (∀ i < s.len.toNat, cellOf b i = cellOf s.bits i) →
    engStep { s with bits := b } = { engStep s with bits := b } ∧
    ∀ w : Nat, workerStep w { s with bits := b } = { workerStep w s with bits := b }

/-- 10_state.md R14, 60_exceptions.md R175: what sets and clears the outcome flags. -/
def Obligations.OutcomeFlagsHold : Prop :=
  ∀ s t : State, Inv s → step s = .next t →
    (t.done ≠ s.done ∨ t.err ≠ s.err ∨ t.errCode ≠ s.errCode) →
    nextTurn s = .reset ∨
    (nextTurn s = .eng ∧ s.busy = true ∧ s.done = false ∧ t.done = true ∧ t.busy = false ∧
      t.err = s.err ∧ t.errCode = s.errCode) ∨
    (nextTurn s = .host ∧ s.busy = false ∧ t.done = false ∧
      ∃ (x : Txn) (rest : List HostLine), s.script = .xfer x :: rest ∧
        x.dir = .write ∧ x.off = 0x00#8)

/-- 43_batch_runner.md R132: no cancellation; 44_host_interface.md R152, R153: what sets and clears BUSY. -/
def Obligations.BusyFallsOnlyByCompletionOrReset : Prop :=
  ∀ s t : State, step s = .next t →
    (s.busy = true → t.busy = false → nextTurn s = .reset ∨ (nextTurn s = .eng ∧ t.done = true)) ∧
    (s.busy = false → t.busy = true →
      nextTurn s = .host ∧ ∃ (x : Txn) (rest : List HostLine), s.script = .xfer x :: rest ∧
        x.dir = .write ∧ x.off = 0x00#8 ∧ t.op.toNat = x.data.toNat % 16 ∧
        1 ≤ t.op.toNat ∧ t.op.toNat ≤ 4)

/-- 10_state.md R15, R16: who writes RESULT and ELAPSED. -/
def Obligations.OutputsWrittenOnlyByTheirWriters : Prop :=
  ∀ s t : State, step s = .next t →
    (t.elapsed ≠ s.elapsed → nextTurn s = .reset ∨
      (nextTurn s = .eng ∧ s.busy = true ∧ s.op = 3#4 ∧ t.busy = false ∧ t.done = true)) ∧
    (t.result ≠ s.result → nextTurn s = .reset ∨
      (isAgentTurn (nextTurn s) = true ∧ s.busy = true ∧ s.op ∈ [1#4, 2#4, 3#4]))

/-- 10_state.md R10, R18, R19, R23: who writes the private elements; R17: W never changes. The phase is the model's own: log entry 3. -/
def Obligations.EngineElementsArePrivate : Prop :=
  ∀ s t : State, step s = .next t →
    (nextTurn s ≠ .eng → nextTurn s ≠ .reset → t.reg = s.reg ∧ t.pos = s.pos ∧ t.icnt = s.icnt) ∧
    (nextTurn s = .host → t.workers = s.workers) ∧
    (∀ w, nextTurn s = .wrk w → ∀ v, v ≠ w → t.workers[v]? = s.workers[v]?) ∧
    (nextTurn s = .eng →
      ¬ (s.busy = true ∧ s.op = 3#4 ∧ s.phase = .start ∧ 100000 ≤ s.iter.toNat) →
      t.workers = s.workers) ∧
    t.workers.length = s.workers.length

/-- 20_memory.md R37: no read has a side effect. -/
def Obligations.NoReadHasASideEffect : Prop :=
  ∀ (x : Txn) (s : State), x.dir = .read → x.off.toNat % 4 = 0 →
    ∃ (v : Word) (d : Nat), exec (decode x) s =
      .next { s with returned := v :: s.returned, draws := d } ∧
      (d = s.draws ∨ (d = s.draws + 1 ∧ s.busy = true ∧ x.off = 0x20#8))

/-- 30_encoding.md R52: the only values STATUS can take. -/
def Obligations.StatusHasSevenValues : Prop :=
  ∀ s : State, Inv s →
    statusWord s ∈ [0x00#32, 0x01#32, 0x02#32, 0x14#32, 0x44#32, 0x54#32, 0x74#32]

/-- 10_state.md R25, 70_reset_and_hazards.md R190, R191: reset. What happens to the model's own fields: log entries 5 and 9. -/
def Obligations.ResetForcesTheResetState : Prop :=
  (∀ t : State, t = State.reset →
    t.reg = 0#15 ∧ t.bits = 0#96 ∧ t.len = 0#7 ∧ t.iter = 0#64 ∧ t.busy = false ∧ t.done = false ∧
    t.err = false ∧ t.errCode = 0#3 ∧ t.result = 0#16 ∧ t.elapsed = 0#64 ∧ t.tblIdx = 0#8 ∧
    t.op = 0#4 ∧ t.pos = 0#7 ∧ t.icnt = 0#64 ∧ t.workers.length = Config.numWorkers ∧
    (∀ k ∈ t.workers, k = { reg := 0#15, quota := 0#64, count := 0#64, fin := false }) ∧
    ∀ b : BitVec 8, tableAt t.tbl b = tblEntry b) ∧
  (∀ s : State, nextTurn s = .reset → ∃ t : State, step s = .next t ∧
    t.reg = 0#15 ∧ t.bits = 0#96 ∧ t.len = 0#7 ∧ t.iter = 0#64 ∧ t.busy = false ∧ t.done = false ∧
    t.err = false ∧ t.errCode = 0#3 ∧ t.result = 0#16 ∧ t.elapsed = 0#64 ∧ t.tblIdx = 0#8 ∧
    t.op = 0#4 ∧ t.pos = 0#7 ∧ t.icnt = 0#64 ∧ t.workers.length = s.workers.length ∧
    (∀ k ∈ t.workers, k = { reg := 0#15, quota := 0#64, count := 0#64, fin := false }) ∧
    (∀ b : BitVec 8, tableAt t.tbl b = tblEntry b) ∧
    t.script = s.script ∧ t.returned = s.returned)

/-- 40_input_codec.md R71: PARSE_BIN. -/
def Obligations.ParseBinOutcomes : Prop :=
  ∀ text : List Char,
    let white := fun c : Char => c ∈ [' ', '\t', '\n', Char.ofNat 0x0B, Char.ofNat 0x0C, '\r']
    let sig := text.filter (fun c => !decide (white c))
    let bad := sig.filter (fun c => !decide (c = '0' ∨ c = '1'))
    (bad ≠ [] → parseBin text = .error (.invalidCharacter (bad.take 5))) ∧
    (bad = [] → sig = [] → parseBin text = .error .emptyInput) ∧
    (bad = [] → 96 < sig.length → parseBin text = .error (.tooLong sig.length 96)) ∧
    (bad = [] → 1 ≤ sig.length → sig.length ≤ 96 →
      parseBin text = .ok (sig.map (fun c => decide (c = '1'))))

/-- 40_input_codec.md R72 with R70 and R74: PARSE_HEX. -/
def Obligations.ParseHexOutcomes : Prop :=
  ∀ text : List Char,
    let white := fun c : Char => c ∈ [' ', '\t', '\n', Char.ofNat 0x0B, Char.ofNat 0x0C, '\r']
    let lower := ['a', 'b', 'c', 'd', 'e', 'f', 'g', 'h', 'i', 'j', 'k', 'l', 'm', 'n', 'o', 'p',
      'q', 'r', 's', 't', 'u', 'v', 'w', 'x', 'y', 'z']
    let capital := ['A', 'B', 'C', 'D', 'E', 'F', 'G', 'H', 'I', 'J', 'K', 'L', 'M', 'N', 'O', 'P',
      'Q', 'R', 'S', 'T', 'U', 'V', 'W', 'X', 'Y', 'Z']
    let hex := ['0', '1', '2', '3', '4', '5', '6', '7', '8', '9', 'A', 'B', 'C', 'D', 'E', 'F']
    let raised := text.map (fun c => capital.getD (lower.idxOf c) c)
    let digits := raised.filter (fun c => !decide (white c))
    let bad := digits.filter (fun c => !decide (c ∈ hex))
    (bad ≠ [] → parseHex text = .error (.invalidCharacter (bad.take 5))) ∧
    (bad = [] → digits = [] → parseHex text = .error .emptyInput) ∧
    (bad = [] → digits.length % 2 = 1 → parseHex text = .error .oddLength) ∧
    (bad = [] → digits.length % 2 = 0 → 24 < digits.length →
      parseHex text = .error (.tooLong (4 * digits.length) 96)) ∧
    (bad = [] → digits.length % 2 = 0 → 1 ≤ digits.length → digits.length ≤ 24 →
      ∃ l : List Bool, parseHex text = .ok l ∧ l.length = 4 * digits.length ∧
        l = digits.flatMap (fun c => [3, 2, 1, 0].map (hex.idxOf c).testBit))

/-- 40_input_codec.md R77: the two formats agree. -/
def Obligations.HexAndBinaryTextsAgree : Prop :=
  ∀ (text : List Char) (bytes : List (BitVec 8)), 1 ≤ bytes.length → bytes.length ≤ 12 →
    significant (text.map upper) =
      bytes.flatMap (fun b => [hexDigit (b.toNat / 16), hexDigit (b.toNat % 16)]) →
    let spelled := (bytes.flatMap bitsOfByte).map (fun b => if b then '1' else '0')
    spelled.length = 8 * bytes.length ∧
    ∃ l : List Bool, parseHex text = .ok l ∧ parseBin spelled = .ok l ∧
      l = bytes.flatMap bitsOfByte ∧ crcRef l = crcFast canonTable l

/-- 40_input_codec.md R78: RENDER. -/
def Obligations.RenderingsReadBack : Prop :=
  ∀ v : Crc15,
    (render v).hex.length = 4 ∧
    (∀ c ∈ (render v).hex, c ∈ ['0', '1', '2', '3', '4', '5', '6', '7', '8', '9', 'A', 'B', 'C',
      'D', 'E', 'F']) ∧
    (∀ c ∈ (render v).hex.head?, c ∈ ['0', '1', '2', '3', '4', '5', '6', '7']) ∧
    (render v).hex.foldl (fun n c => 16 * n + hexVal c) 0 = v.toNat ∧
    (render v).bin.length = 15 ∧ (∀ c ∈ (render v).bin, c = '0' ∨ c = '1') ∧
    (render v).bin.foldl (fun n c => 2 * n + if c = '1' then 1 else 0) 0 = v.toNat ∧
    (∀ c ∈ (render v).dec, c ∈ ['0', '1', '2', '3', '4', '5', '6', '7', '8', '9']) ∧
    (v ≠ 0#15 → (render v).dec.head? ≠ some '0') ∧ (v = 0#15 → (render v).dec = ['0']) ∧
    (render v).dec.foldl (fun n c => 10 * n + (c.toNat - '0'.toNat)) 0 = v.toNat

/-- 40_input_codec.md R76: LOADBITS, over the writes of 44_host_interface.md R144 and R147. The script and the turns are the model's own: log entries 5 and 2. -/
def Obligations.LoadBitsLoadsTheSequence : Prop :=
  ∀ (s : State) (l : List Bool) (rest : List HostLine) (later : List Turn),
    1 ≤ l.length → l.length ≤ 96 → s.busy = false →
    s.script = loadBitsLines l ++ rest → s.turns = List.replicate 4 Turn.host ++ later →
    ∃ cells : BitVec 96, core.run 4 s = .next { s with
        bits := cells, len := BitVec.ofNat 7 l.length, script := rest, turns := later } ∧
      (∀ t : State, t.bits = cells → t.len = BitVec.ofNat 7 l.length → t.sequence = l) ∧
      ∀ i, l.length ≤ i → cellOf cells i = false

/-- 44_host_interface.md R150, R152, R153 with 43_batch_runner.md R129: an admitted command from acceptance to its result. The turns are the model's own: log entry 2. -/
def Obligations.CommandRunsFromIdleToItsResult : Prop :=
  ∀ (s : State) (ig : BitVec 28), Inv s → s.busy = false →
    1 ≤ s.len.toNat → s.len.toNat ≤ 96 →
    (∀ i ∈ [Instr.crcRef ig, .crcFast ig, .runBatch ig],
      (i = .runBatch ig → 1 ≤ s.iter.toNat ∧ s.iter.toNat < 100000) →
      ∃ (n : Nat) (t u : State), exec i s = .next t ∧ t.busy = true ∧
        core.run n { t with turns := List.replicate n Turn.eng ++ s.turns } = .next u ∧
        u.busy = false ∧ u.done = true ∧ u.err = false ∧ u.errCode = 0#3 ∧
        u.result.toNat = (crcRef s.sequence).toNat ∧
        u.bits = s.bits ∧ u.len = s.len ∧ u.iter = s.iter ∧ u.tbl = s.tbl ∧ u.tblIdx = s.tblIdx ∧
        u.workers = s.workers ∧ u.script = s.script ∧ u.returned = s.returned ∧
        u.turns = s.turns ∧ (i ≠ .runBatch ig → u.elapsed = s.elapsed ∧ u.draws = s.draws)) ∧
    (100000 ≤ s.iter.toNat → s.iter.toNat ≤ 1000000000 →
      ∃ (agents : List Turn) (t u : State), exec (.runBatch ig) s = .next t ∧ t.busy = true ∧
        (∀ a ∈ agents, isAgentTurn a = true) ∧
        core.run agents.length { t with turns := agents ++ s.turns } = .next u ∧
        u.busy = false ∧ u.done = true ∧ u.err = false ∧ u.errCode = 0#3 ∧
        u.result.toNat = (crcRef s.sequence).toNat ∧
        u.bits = s.bits ∧ u.len = s.len ∧ u.iter = s.iter ∧ u.tbl = s.tbl ∧ u.tblIdx = s.tblIdx ∧
        u.script = s.script ∧ u.returned = s.returned ∧ u.turns = s.turns)
end

