-- ==== Sys2Proof/Laws/Crc.lean ====
section
/-! SUPPORT. The CRC functions: the step as a shift and a feedback term, the table's entries, and a
computation taken one bit further. -/

namespace Sys2Proof.Machine

/-- The term the feedback contributes to a bit step. -/
def feedbackTerm (b : Bool) : Crc15 :=
  if b then Config.poly else 0#15

theorem feedbackTerm_xor (a b : Bool) :
    feedbackTerm (Bool.xor a b) = feedbackTerm a ^^^ feedbackTerm b := by
  cases a <;> cases b <;> simp [feedbackTerm]

theorem bitStep_eq (r : Crc15) (n : Bool) :
    bitStep r n = r <<< 1 ^^^ feedbackTerm (Bool.xor n r[14]) := by
  unfold bitStep feedbackTerm
  simp [Config.topBit]
  split <;> simp

@[simp] theorem bitStep_zero : bitStep 0#15 false = 0#15 := rfl

@[simp] theorem tableAt_canonTable (b : BitVec 8) : tableAt canonTable b = tblEntry b := by
  simp [tableAt, canonTable]

@[simp] theorem crcRef_nil : crcRef [] = 0#15 := rfl

theorem crcRef_snoc (l : List Bool) (b : Bool) : crcRef (l ++ [b]) = bitStep (crcRef l) b := by
  simp [crcRef]

theorem crcRef_append (l m : List Bool) : crcRef (l ++ m) = m.foldl bitStep (crcRef l) := by
  simp [crcRef]

@[simp] theorem crcWord_toNat (r : Crc15) : (crcWord r).toNat = r.toNat := by
  simp only [crcWord, BitVec.toNat_setWidth]
  omega

@[simp] theorem crcWord_top (r : Crc15) : (crcWord r)[15] = false := by
  simp [crcWord]

theorem bitsOfByteOfBits : ∀ b7 b6 b5 b4 b3 b2 b1 b0 : Bool,
    (List.range 8).map (byteOfBits [b7, b6, b5, b4, b3, b2, b1, b0]).getMsbD =
      [b7, b6, b5, b4, b3, b2, b1, b0] := by
  decide

end Sys2Proof.Machine
end

