-- ==== Sys2Proof/Laws/Decode.lean ====
section
/-! SUPPORT. The fields of a transaction word, the classes of offsets, and what decode does at each kind of
offset. -/

namespace Sys2Proof

theorem Txn.getLsbD_mk (d : Dir) (o : Offset) (v : Word) (i : Nat) :
    (Txn.mk d o v).getLsbD i =
      if i < 32 then v.getLsbD i else if i < 40 then o.getLsbD (i - 32)
      else d.bit.getLsbD (i - 40) := by
  unfold Txn.mk
  rw [BitVec.getLsbD_append, BitVec.getLsbD_append]
  grind

@[simp] theorem Txn.dir_mk (d : Dir) (o : Offset) (v : Word) : (Txn.mk d o v).dir = d := by
  cases d <;> simp only [Txn.dir, Txn.getLsbD_mk, Dir.bit] <;> rfl

@[simp] theorem Txn.off_mk (d : Dir) (o : Offset) (v : Word) : (Txn.mk d o v).off = o := by
  apply BitVec.eq_of_getLsbD_eq
  intro i hi
  simp only [Txn.off, BitVec.getLsbD_extractLsb', Txn.getLsbD_mk]
  grind

@[simp] theorem Txn.data_mk (d : Dir) (o : Offset) (v : Word) : (Txn.mk d o v).data = v := by
  apply BitVec.eq_of_getLsbD_eq
  intro i hi
  simp only [Txn.data, BitVec.getLsbD_extractLsb', Txn.getLsbD_mk]
  grind

theorem Txn.mk_fields (x : Txn) : Txn.mk x.dir x.off x.data = x := by
  apply BitVec.eq_of_getLsbD_eq
  intro i hi
  simp only [Txn.getLsbD_mk, Txn.off, Txn.data, BitVec.getLsbD_extractLsb']
  by_cases h : i < 40
  · grind
  · have : i = 40 := by omega
    subst this
    unfold Txn.dir
    cases h : x.getLsbD 40 <;> simp [Dir.bit]

@[simp] theorem regAt_offset (r : Reg) : regAt r.offset = some r := by
  cases r <;> rfl

@[simp] theorem offset_bit0 (r : Reg) : r.offset[0] = false := by
  cases r <;> rfl

@[simp] theorem offset_bit1 (r : Reg) : r.offset[1] = false := by
  cases r <;> rfl

theorem regAt_eq_some (off : Offset) (r : Reg) (h : regAt off = some r) : off = r.offset := by
  unfold regAt at h
  apply BitVec.eq_of_toNat_eq
  split at h <;> simp_all <;> subst h <;> simp [Reg.offset]

@[simp] theorem code_ctrlData (ig : BitVec 28) (c : BitVec 4) :
    (ctrlData ig c).extractLsb' 0 4 = c := by
  apply BitVec.eq_of_getLsbD_eq
  intro i hi
  simp only [ctrlData, BitVec.getLsbD_extractLsb', BitVec.getLsbD_append]
  grind

@[simp] theorem ignored_ctrlData (ig : BitVec 28) (c : BitVec 4) :
    (ctrlData ig c).extractLsb' 4 28 = ig := by
  apply BitVec.eq_of_getLsbD_eq
  intro i hi
  simp only [ctrlData, BitVec.getLsbD_extractLsb', BitVec.getLsbD_append]
  grind

theorem ctrlData_fields (v : Word) :
    ctrlData (v.extractLsb' 4 28) (v.extractLsb' 0 4) = v := by
  apply BitVec.eq_of_getLsbD_eq
  intro i hi
  simp only [ctrlData, BitVec.getLsbD_extractLsb', BitVec.getLsbD_append]
  grind

theorem keeps_of_admits (d : Dir) (v : Word) (h : d.admits v = true) : d.keeps v = v := by
  cases d <;> simp_all [Dir.admits, Dir.keeps]

theorem decode_write (r : Reg) (v : Word) :
    decode (Txn.mk .write r.offset v) = decodeWrite r.offset v := by
  simp [decode]

theorem decode_read (r : Reg) (v : Word) :
    decode (Txn.mk .read r.offset v) = decodeRead r.offset := by
  simp [decode]

section
set_option maxRecDepth 100000

theorem class38_spec : ∀ off : Offset, Offset.inClass38 off = true →
    off[0] = false ∧ off[1] = false ∧ regAt off = none ∧ off.toNat < 64 := by
  decide

theorem class40_spec : ∀ off : Offset, Offset.inClass40 off = true →
    off[0] = false ∧ off[1] = false ∧ regAt off = none ∧ ¬ off.toNat < 64 ∧ off.toNat < 128 := by
  decide

theorem class80_spec : ∀ off : Offset, Offset.inClass80 off = true →
    off[0] = false ∧ off[1] = false ∧ regAt off = none ∧ ¬ off.toNat < 64 ∧
      ¬ off.toNat < 128 := by
  decide

theorem classOdd_spec : ∀ off : Offset, Offset.inClassOdd off = true ↔ off[0] = true := by
  decide

theorem classHalf_spec : ∀ off : Offset,
    Offset.inClassHalf off = true ↔ off[0] = false ∧ off[1] = true := by
  decide

/-- An aligned offset that holds no register lies in one of the three reserved classes. -/
theorem reserved_class : ∀ off : Offset, off[0] = false → off[1] = false → regAt off = none →
    if off.toNat < 64 then Offset.inClass38 off = true
    else if off.toNat < 128 then Offset.inClass40 off = true
    else Offset.inClass80 off = true := by
  decide

theorem aligned_iff : ∀ off : Offset, off.toNat % 4 = 0 ↔ off[0] = false ∧ off[1] = false := by
  decide

end

end Sys2Proof
end

