-- ==== Sys2Proof/Laws/Operands.lean ====
section
/-! SUPPORT. The cells and halves of the input registers, and the sequence they hold. -/

namespace Sys2Proof.Machine

@[simp] theorem lowHalf_toNat (x : BitVec 64) : (lowHalf x).toNat = x.toNat % 2 ^ 32 := by
  simp [lowHalf]

@[simp] theorem highHalf_toNat (x : BitVec 64) : (highHalf x).toNat = x.toNat / 2 ^ 32 := by
  simp [highHalf, Nat.shiftRight_eq_div_pow]
  omega

@[simp] theorem ofHalves_toNat (hi lo : Word) :
    (ofHalves hi lo).toNat = hi.toNat * 2 ^ 32 + lo.toNat := by
  change (hi ++ lo : BitVec (32 + 32)).toNat = _
  rw [BitVec.toNat_append, ← Nat.shiftLeft_add_eq_or_of_lt lo.isLt, Nat.shiftLeft_eq]

/-- A write of `DATAn` sets its 32 cells and no other. -/
theorem cellOf_withDataWord (bits : BitVec 96) (n : Nat) (v : Word) (hn : n < 3) (e : Nat)
    (he : e < 96) :
    cellOf (withDataWord bits n v) e =
      if e / 32 = n then v.getLsbD (31 - e % 32) else cellOf bits e := by
  unfold cellOf withDataWord
  simp only [BitVec.getMsbD_eq_getLsbD, he, BitVec.getLsbD_or, BitVec.getLsbD_and,
    BitVec.getLsbD_not, BitVec.getLsbD_shiftLeft, BitVec.getLsbD_setWidth]
  have ones : ∀ i < 32, (0xFFFFFFFF#32).getLsbD i = true := by decide
  have h95 : 95 - e < 96 := by omega
  by_cases h : e / 32 = n
  · have h1 : ¬ 96 - 1 - e < 64 - 32 * n := by omega
    have h2 : 96 - 1 - e - (64 - 32 * n) = 31 - e % 32 := by omega
    have h3 := ones (31 - e % 32) (by omega)
    have h4 : 31 - e % 32 < 96 := by omega
    simp [h, h1, h2, h3, h95, h4]
  · by_cases h1 : 96 - 1 - e < 64 - 32 * n
    · simp [h, h1, h95]
    · have h4 : 32 ≤ 96 - 1 - e - (64 - 32 * n) := by omega
      have h5 : (0xFFFFFFFF#32).getLsbD (96 - 1 - e - (64 - 32 * n)) = false :=
        BitVec.getLsbD_of_ge _ _ h4
      have h6 : v.getLsbD (96 - 1 - e - (64 - 32 * n)) = false := BitVec.getLsbD_of_ge _ _ h4
      simp [h, h5, h6, h95]

theorem dataWord_bit (bits : BitVec 96) (n : Nat) (hn : n < 3) (j : Nat) (hj : j < 32) :
    (dataWord bits n).getLsbD j = cellOf bits (32 * n + 31 - j) := by
  have h1 : 32 * n + 31 - j < 96 := by omega
  have h2 : 96 - 1 - (32 * n + 31 - j) = 64 - 32 * n + j := by omega
  simp only [dataWord, cellOf, BitVec.getLsbD_extractLsb', BitVec.getMsbD_eq_getLsbD, hj, h1, h2,
    decide_true, Bool.true_and]

theorem dataWord_withDataWord (bits : BitVec 96) (n m : Nat) (v : Word) (hn : n < 3) (hm : m < 3) :
    dataWord (withDataWord bits n v) m = if m = n then v else dataWord bits m := by
  apply BitVec.eq_of_getLsbD_eq
  intro j hj
  rw [dataWord_bit _ _ hm _ hj, cellOf_withDataWord _ _ _ hn _ (by omega)]
  by_cases h : m = n
  · subst h
    rw [if_pos (by omega), if_pos rfl]
    congr 1
    omega
  · rw [if_neg (by omega), if_neg h, dataWord_bit _ _ hm _ hj]

@[simp] theorem sequence_length (s : State) : s.sequence.length = s.len.toNat := by
  simp [State.sequence]

theorem sequence_getElem (s : State) (i : Nat) (h : i < s.sequence.length) :
    s.sequence[i] = cellOf s.bits i := by
  simp [State.sequence]

/-- The sequence depends on `LEN` and on the cells below it alone. -/
theorem sequence_congr (s t : State) (hl : t.len = s.len)
    (hb : ∀ i < s.len.toNat, cellOf t.bits i = cellOf s.bits i) : t.sequence = s.sequence := by
  simp only [State.sequence, hl]
  exact List.map_congr_left fun i hi => hb i (List.mem_range.1 hi)

theorem sequence_take_succ (s : State) (i : Nat) (h : i < s.len.toNat) :
    s.sequence.take (i + 1) = s.sequence.take i ++ [cellOf s.bits i] := by
  rw [List.take_succ_eq_append_getElem (by simpa using h), sequence_getElem]

end Sys2Proof.Machine
end

