-- ==== Sys2Proof/Laws/State.lean ====
section
/-! SUPPORT. For each update of State, what it leaves in each field. -/

namespace Sys2Proof.Machine

@[simp] theorem deliver_reg (v : Word) (s : State) : (deliver v s).reg = s.reg := rfl
@[simp] theorem deliver_bits (v : Word) (s : State) : (deliver v s).bits = s.bits := rfl
@[simp] theorem deliver_len (v : Word) (s : State) : (deliver v s).len = s.len := rfl
@[simp] theorem deliver_iter (v : Word) (s : State) : (deliver v s).iter = s.iter := rfl
@[simp] theorem deliver_tbl (v : Word) (s : State) : (deliver v s).tbl = s.tbl := rfl
@[simp] theorem deliver_busy (v : Word) (s : State) : (deliver v s).busy = s.busy := rfl
@[simp] theorem deliver_done (v : Word) (s : State) : (deliver v s).done = s.done := rfl
@[simp] theorem deliver_err (v : Word) (s : State) : (deliver v s).err = s.err := rfl
@[simp] theorem deliver_errCode (v : Word) (s : State) : (deliver v s).errCode = s.errCode := rfl
@[simp] theorem deliver_result (v : Word) (s : State) : (deliver v s).result = s.result := rfl
@[simp] theorem deliver_elapsed (v : Word) (s : State) : (deliver v s).elapsed = s.elapsed := rfl
@[simp] theorem deliver_tblIdx (v : Word) (s : State) : (deliver v s).tblIdx = s.tblIdx := rfl
@[simp] theorem deliver_op (v : Word) (s : State) : (deliver v s).op = s.op := rfl
@[simp] theorem deliver_pos (v : Word) (s : State) : (deliver v s).pos = s.pos := rfl
@[simp] theorem deliver_icnt (v : Word) (s : State) : (deliver v s).icnt = s.icnt := rfl
@[simp] theorem deliver_workers (v : Word) (s : State) : (deliver v s).workers = s.workers := rfl
@[simp] theorem deliver_phase (v : Word) (s : State) : (deliver v s).phase = s.phase := rfl
@[simp] theorem deliver_script (v : Word) (s : State) : (deliver v s).script = s.script := rfl
@[simp] theorem deliver_returned (v : Word) (s : State) : (deliver v s).returned =
    v :: s.returned := rfl
@[simp] theorem deliver_turns (v : Word) (s : State) : (deliver v s).turns = s.turns := rfl
@[simp] theorem deliver_draws (v : Word) (s : State) : (deliver v s).draws = s.draws := rfl
@[simp] theorem deliver_sequence (v : Word) (s : State) : (deliver v s).sequence = s.sequence := rfl
@[simp] theorem deliver_numWorkers (v : Word) (s : State) : (deliver v s).numWorkers =
    s.numWorkers := rfl

@[simp] theorem deliverDraw_reg (s : State) : (deliverDraw s).reg = s.reg := rfl
@[simp] theorem deliverDraw_bits (s : State) : (deliverDraw s).bits = s.bits := rfl
@[simp] theorem deliverDraw_len (s : State) : (deliverDraw s).len = s.len := rfl
@[simp] theorem deliverDraw_iter (s : State) : (deliverDraw s).iter = s.iter := rfl
@[simp] theorem deliverDraw_tbl (s : State) : (deliverDraw s).tbl = s.tbl := rfl
@[simp] theorem deliverDraw_busy (s : State) : (deliverDraw s).busy = s.busy := rfl
@[simp] theorem deliverDraw_done (s : State) : (deliverDraw s).done = s.done := rfl
@[simp] theorem deliverDraw_err (s : State) : (deliverDraw s).err = s.err := rfl
@[simp] theorem deliverDraw_errCode (s : State) : (deliverDraw s).errCode = s.errCode := rfl
@[simp] theorem deliverDraw_result (s : State) : (deliverDraw s).result = s.result := rfl
@[simp] theorem deliverDraw_elapsed (s : State) : (deliverDraw s).elapsed = s.elapsed := rfl
@[simp] theorem deliverDraw_tblIdx (s : State) : (deliverDraw s).tblIdx = s.tblIdx := rfl
@[simp] theorem deliverDraw_op (s : State) : (deliverDraw s).op = s.op := rfl
@[simp] theorem deliverDraw_pos (s : State) : (deliverDraw s).pos = s.pos := rfl
@[simp] theorem deliverDraw_icnt (s : State) : (deliverDraw s).icnt = s.icnt := rfl
@[simp] theorem deliverDraw_workers (s : State) : (deliverDraw s).workers = s.workers := rfl
@[simp] theorem deliverDraw_phase (s : State) : (deliverDraw s).phase = s.phase := rfl
@[simp] theorem deliverDraw_script (s : State) : (deliverDraw s).script = s.script := rfl
@[simp] theorem deliverDraw_returned (s : State) : (deliverDraw s).returned =
    Config.busyCrcDraw s.draws :: s.returned := rfl
@[simp] theorem deliverDraw_turns (s : State) : (deliverDraw s).turns = s.turns := rfl
@[simp] theorem deliverDraw_draws (s : State) : (deliverDraw s).draws = s.draws + 1 := rfl
@[simp] theorem deliverDraw_sequence (s : State) : (deliverDraw s).sequence = s.sequence := rfl
@[simp] theorem deliverDraw_numWorkers (s : State) : (deliverDraw s).numWorkers =
    s.numWorkers := rfl

@[simp] theorem refuse_reg (e : BoundaryError) (s : State) : (refuse e s).reg = s.reg := rfl
@[simp] theorem refuse_bits (e : BoundaryError) (s : State) : (refuse e s).bits = s.bits := rfl
@[simp] theorem refuse_len (e : BoundaryError) (s : State) : (refuse e s).len = s.len := rfl
@[simp] theorem refuse_iter (e : BoundaryError) (s : State) : (refuse e s).iter = s.iter := rfl
@[simp] theorem refuse_tbl (e : BoundaryError) (s : State) : (refuse e s).tbl = s.tbl := rfl
@[simp] theorem refuse_busy (e : BoundaryError) (s : State) : (refuse e s).busy = s.busy := rfl
@[simp] theorem refuse_done (e : BoundaryError) (s : State) : (refuse e s).done = s.done := rfl
@[simp] theorem refuse_err (e : BoundaryError) (s : State) : (refuse e s).err = true := rfl
@[simp] theorem refuse_errCode (e : BoundaryError) (s : State) : (refuse e s).errCode =
    e.code := rfl
@[simp] theorem refuse_result (e : BoundaryError) (s : State) : (refuse e s).result =
    s.result := rfl
@[simp] theorem refuse_elapsed (e : BoundaryError) (s : State) : (refuse e s).elapsed =
    s.elapsed := rfl
@[simp] theorem refuse_tblIdx (e : BoundaryError) (s : State) : (refuse e s).tblIdx =
    s.tblIdx := rfl
@[simp] theorem refuse_op (e : BoundaryError) (s : State) : (refuse e s).op = s.op := rfl
@[simp] theorem refuse_pos (e : BoundaryError) (s : State) : (refuse e s).pos = s.pos := rfl
@[simp] theorem refuse_icnt (e : BoundaryError) (s : State) : (refuse e s).icnt = s.icnt := rfl
@[simp] theorem refuse_workers (e : BoundaryError) (s : State) : (refuse e s).workers =
    s.workers := rfl
@[simp] theorem refuse_phase (e : BoundaryError) (s : State) : (refuse e s).phase = s.phase := rfl
@[simp] theorem refuse_script (e : BoundaryError) (s : State) : (refuse e s).script =
    s.script := rfl
@[simp] theorem refuse_returned (e : BoundaryError) (s : State) : (refuse e s).returned =
    s.returned := rfl
@[simp] theorem refuse_turns (e : BoundaryError) (s : State) : (refuse e s).turns = s.turns := rfl
@[simp] theorem refuse_draws (e : BoundaryError) (s : State) : (refuse e s).draws = s.draws := rfl
@[simp] theorem refuse_sequence (e : BoundaryError) (s : State) : (refuse e s).sequence =
    s.sequence := rfl
@[simp] theorem refuse_numWorkers (e : BoundaryError) (s : State) : (refuse e s).numWorkers =
    s.numWorkers := rfl

@[simp] theorem forgetOutcome_reg (s : State) : (forgetOutcome s).reg = s.reg := rfl
@[simp] theorem forgetOutcome_bits (s : State) : (forgetOutcome s).bits = s.bits := rfl
@[simp] theorem forgetOutcome_len (s : State) : (forgetOutcome s).len = s.len := rfl
@[simp] theorem forgetOutcome_iter (s : State) : (forgetOutcome s).iter = s.iter := rfl
@[simp] theorem forgetOutcome_tbl (s : State) : (forgetOutcome s).tbl = s.tbl := rfl
@[simp] theorem forgetOutcome_busy (s : State) : (forgetOutcome s).busy = s.busy := rfl
@[simp] theorem forgetOutcome_done (s : State) : (forgetOutcome s).done = false := rfl
@[simp] theorem forgetOutcome_err (s : State) : (forgetOutcome s).err = false := rfl
@[simp] theorem forgetOutcome_errCode (s : State) : (forgetOutcome s).errCode = 0#3 := rfl
@[simp] theorem forgetOutcome_result (s : State) : (forgetOutcome s).result = s.result := rfl
@[simp] theorem forgetOutcome_elapsed (s : State) : (forgetOutcome s).elapsed = s.elapsed := rfl
@[simp] theorem forgetOutcome_tblIdx (s : State) : (forgetOutcome s).tblIdx = s.tblIdx := rfl
@[simp] theorem forgetOutcome_op (s : State) : (forgetOutcome s).op = s.op := rfl
@[simp] theorem forgetOutcome_pos (s : State) : (forgetOutcome s).pos = s.pos := rfl
@[simp] theorem forgetOutcome_icnt (s : State) : (forgetOutcome s).icnt = s.icnt := rfl
@[simp] theorem forgetOutcome_workers (s : State) : (forgetOutcome s).workers = s.workers := rfl
@[simp] theorem forgetOutcome_phase (s : State) : (forgetOutcome s).phase = s.phase := rfl
@[simp] theorem forgetOutcome_script (s : State) : (forgetOutcome s).script = s.script := rfl
@[simp] theorem forgetOutcome_returned (s : State) : (forgetOutcome s).returned = s.returned := rfl
@[simp] theorem forgetOutcome_turns (s : State) : (forgetOutcome s).turns = s.turns := rfl
@[simp] theorem forgetOutcome_draws (s : State) : (forgetOutcome s).draws = s.draws := rfl
@[simp] theorem forgetOutcome_sequence (s : State) : (forgetOutcome s).sequence = s.sequence := rfl
@[simp] theorem forgetOutcome_numWorkers (s : State) : (forgetOutcome s).numWorkers =
    s.numWorkers := rfl

@[simp] theorem accept_reg (op : BitVec 4) (s : State) : (accept op s).reg = s.reg := rfl
@[simp] theorem accept_bits (op : BitVec 4) (s : State) : (accept op s).bits = s.bits := rfl
@[simp] theorem accept_len (op : BitVec 4) (s : State) : (accept op s).len = s.len := rfl
@[simp] theorem accept_iter (op : BitVec 4) (s : State) : (accept op s).iter = s.iter := rfl
@[simp] theorem accept_tbl (op : BitVec 4) (s : State) : (accept op s).tbl = s.tbl := rfl
@[simp] theorem accept_busy (op : BitVec 4) (s : State) : (accept op s).busy = true := rfl
@[simp] theorem accept_done (op : BitVec 4) (s : State) : (accept op s).done = s.done := rfl
@[simp] theorem accept_err (op : BitVec 4) (s : State) : (accept op s).err = s.err := rfl
@[simp] theorem accept_errCode (op : BitVec 4) (s : State) : (accept op s).errCode =
    s.errCode := rfl
@[simp] theorem accept_result (op : BitVec 4) (s : State) : (accept op s).result = s.result := rfl
@[simp] theorem accept_elapsed (op : BitVec 4) (s : State) : (accept op s).elapsed =
    s.elapsed := rfl
@[simp] theorem accept_tblIdx (op : BitVec 4) (s : State) : (accept op s).tblIdx = s.tblIdx := rfl
@[simp] theorem accept_op (op : BitVec 4) (s : State) : (accept op s).op = op := rfl
@[simp] theorem accept_pos (op : BitVec 4) (s : State) : (accept op s).pos = s.pos := rfl
@[simp] theorem accept_icnt (op : BitVec 4) (s : State) : (accept op s).icnt = s.icnt := rfl
@[simp] theorem accept_workers (op : BitVec 4) (s : State) : (accept op s).workers =
    s.workers := rfl
@[simp] theorem accept_phase (op : BitVec 4) (s : State) : (accept op s).phase = .start := rfl
@[simp] theorem accept_script (op : BitVec 4) (s : State) : (accept op s).script = s.script := rfl
@[simp] theorem accept_returned (op : BitVec 4) (s : State) : (accept op s).returned =
    s.returned := rfl
@[simp] theorem accept_turns (op : BitVec 4) (s : State) : (accept op s).turns = s.turns := rfl
@[simp] theorem accept_draws (op : BitVec 4) (s : State) : (accept op s).draws = s.draws := rfl
@[simp] theorem accept_sequence (op : BitVec 4) (s : State) : (accept op s).sequence =
    s.sequence := rfl
@[simp] theorem accept_numWorkers (op : BitVec 4) (s : State) : (accept op s).numWorkers =
    s.numWorkers := rfl

@[simp] theorem complete_reg (s : State) : (complete s).reg = s.reg := rfl
@[simp] theorem complete_bits (s : State) : (complete s).bits = s.bits := rfl
@[simp] theorem complete_len (s : State) : (complete s).len = s.len := rfl
@[simp] theorem complete_iter (s : State) : (complete s).iter = s.iter := rfl
@[simp] theorem complete_tbl (s : State) : (complete s).tbl = s.tbl := rfl
@[simp] theorem complete_busy (s : State) : (complete s).busy = false := rfl
@[simp] theorem complete_done (s : State) : (complete s).done = true := rfl
@[simp] theorem complete_err (s : State) : (complete s).err = s.err := rfl
@[simp] theorem complete_errCode (s : State) : (complete s).errCode = s.errCode := rfl
@[simp] theorem complete_result (s : State) : (complete s).result = s.result := rfl
@[simp] theorem complete_elapsed (s : State) : (complete s).elapsed = s.elapsed := rfl
@[simp] theorem complete_tblIdx (s : State) : (complete s).tblIdx = s.tblIdx := rfl
@[simp] theorem complete_op (s : State) : (complete s).op = s.op := rfl
@[simp] theorem complete_pos (s : State) : (complete s).pos = s.pos := rfl
@[simp] theorem complete_icnt (s : State) : (complete s).icnt = s.icnt := rfl
@[simp] theorem complete_workers (s : State) : (complete s).workers = s.workers := rfl
@[simp] theorem complete_phase (s : State) : (complete s).phase = s.phase := rfl
@[simp] theorem complete_script (s : State) : (complete s).script = s.script := rfl
@[simp] theorem complete_returned (s : State) : (complete s).returned = s.returned := rfl
@[simp] theorem complete_turns (s : State) : (complete s).turns = s.turns := rfl
@[simp] theorem complete_draws (s : State) : (complete s).draws = s.draws := rfl
@[simp] theorem complete_sequence (s : State) : (complete s).sequence = s.sequence := rfl
@[simp] theorem complete_numWorkers (s : State) : (complete s).numWorkers = s.numWorkers := rfl

@[simp] theorem drawElapsed_reg (s : State) : (drawElapsed s).reg = s.reg := rfl
@[simp] theorem drawElapsed_bits (s : State) : (drawElapsed s).bits = s.bits := rfl
@[simp] theorem drawElapsed_len (s : State) : (drawElapsed s).len = s.len := rfl
@[simp] theorem drawElapsed_iter (s : State) : (drawElapsed s).iter = s.iter := rfl
@[simp] theorem drawElapsed_tbl (s : State) : (drawElapsed s).tbl = s.tbl := rfl
@[simp] theorem drawElapsed_busy (s : State) : (drawElapsed s).busy = s.busy := rfl
@[simp] theorem drawElapsed_done (s : State) : (drawElapsed s).done = s.done := rfl
@[simp] theorem drawElapsed_err (s : State) : (drawElapsed s).err = s.err := rfl
@[simp] theorem drawElapsed_errCode (s : State) : (drawElapsed s).errCode = s.errCode := rfl
@[simp] theorem drawElapsed_result (s : State) : (drawElapsed s).result = s.result := rfl
@[simp] theorem drawElapsed_elapsed (s : State) : (drawElapsed s).elapsed =
    Config.elapsedDraw s.draws := rfl
@[simp] theorem drawElapsed_tblIdx (s : State) : (drawElapsed s).tblIdx = s.tblIdx := rfl
@[simp] theorem drawElapsed_op (s : State) : (drawElapsed s).op = s.op := rfl
@[simp] theorem drawElapsed_pos (s : State) : (drawElapsed s).pos = s.pos := rfl
@[simp] theorem drawElapsed_icnt (s : State) : (drawElapsed s).icnt = s.icnt := rfl
@[simp] theorem drawElapsed_workers (s : State) : (drawElapsed s).workers = s.workers := rfl
@[simp] theorem drawElapsed_phase (s : State) : (drawElapsed s).phase = s.phase := rfl
@[simp] theorem drawElapsed_script (s : State) : (drawElapsed s).script = s.script := rfl
@[simp] theorem drawElapsed_returned (s : State) : (drawElapsed s).returned = s.returned := rfl
@[simp] theorem drawElapsed_turns (s : State) : (drawElapsed s).turns = s.turns := rfl
@[simp] theorem drawElapsed_draws (s : State) : (drawElapsed s).draws = s.draws + 1 := rfl
@[simp] theorem drawElapsed_sequence (s : State) : (drawElapsed s).sequence = s.sequence := rfl
@[simp] theorem drawElapsed_numWorkers (s : State) : (drawElapsed s).numWorkers =
    s.numWorkers := rfl

@[simp] theorem beginComputation_reg (s : State) : (beginComputation s).reg = 0#15 := rfl
@[simp] theorem beginComputation_bits (s : State) : (beginComputation s).bits = s.bits := rfl
@[simp] theorem beginComputation_len (s : State) : (beginComputation s).len = s.len := rfl
@[simp] theorem beginComputation_iter (s : State) : (beginComputation s).iter = s.iter := rfl
@[simp] theorem beginComputation_tbl (s : State) : (beginComputation s).tbl = s.tbl := rfl
@[simp] theorem beginComputation_busy (s : State) : (beginComputation s).busy = s.busy := rfl
@[simp] theorem beginComputation_done (s : State) : (beginComputation s).done = s.done := rfl
@[simp] theorem beginComputation_err (s : State) : (beginComputation s).err = s.err := rfl
@[simp] theorem beginComputation_errCode (s : State) : (beginComputation s).errCode =
    s.errCode := rfl
@[simp] theorem beginComputation_result (s : State) : (beginComputation s).result = s.result := rfl
@[simp] theorem beginComputation_elapsed (s : State) : (beginComputation s).elapsed =
    s.elapsed := rfl
@[simp] theorem beginComputation_tblIdx (s : State) : (beginComputation s).tblIdx = s.tblIdx := rfl
@[simp] theorem beginComputation_op (s : State) : (beginComputation s).op = s.op := rfl
@[simp] theorem beginComputation_pos (s : State) : (beginComputation s).pos = 0#7 := rfl
@[simp] theorem beginComputation_icnt (s : State) : (beginComputation s).icnt = s.icnt := rfl
@[simp] theorem beginComputation_workers (s : State) : (beginComputation s).workers =
    s.workers := rfl
@[simp] theorem beginComputation_phase (s : State) : (beginComputation s).phase = .compute := rfl
@[simp] theorem beginComputation_script (s : State) : (beginComputation s).script = s.script := rfl
@[simp] theorem beginComputation_returned (s : State) : (beginComputation s).returned =
    s.returned := rfl
@[simp] theorem beginComputation_turns (s : State) : (beginComputation s).turns = s.turns := rfl
@[simp] theorem beginComputation_draws (s : State) : (beginComputation s).draws = s.draws := rfl
@[simp] theorem beginComputation_sequence (s : State) : (beginComputation s).sequence =
    s.sequence := rfl
@[simp] theorem beginComputation_numWorkers (s : State) : (beginComputation s).numWorkers =
    s.numWorkers := rfl

@[simp] theorem bitMicro_reg (s : State) : (bitMicro s).reg =
    bitStep s.reg (cellOf s.bits s.pos.toNat) := rfl
@[simp] theorem bitMicro_bits (s : State) : (bitMicro s).bits = s.bits := rfl
@[simp] theorem bitMicro_len (s : State) : (bitMicro s).len = s.len := rfl
@[simp] theorem bitMicro_iter (s : State) : (bitMicro s).iter = s.iter := rfl
@[simp] theorem bitMicro_tbl (s : State) : (bitMicro s).tbl = s.tbl := rfl
@[simp] theorem bitMicro_busy (s : State) : (bitMicro s).busy = s.busy := rfl
@[simp] theorem bitMicro_done (s : State) : (bitMicro s).done = s.done := rfl
@[simp] theorem bitMicro_err (s : State) : (bitMicro s).err = s.err := rfl
@[simp] theorem bitMicro_errCode (s : State) : (bitMicro s).errCode = s.errCode := rfl
@[simp] theorem bitMicro_result (s : State) : (bitMicro s).result = s.result := rfl
@[simp] theorem bitMicro_elapsed (s : State) : (bitMicro s).elapsed = s.elapsed := rfl
@[simp] theorem bitMicro_tblIdx (s : State) : (bitMicro s).tblIdx = s.tblIdx := rfl
@[simp] theorem bitMicro_op (s : State) : (bitMicro s).op = s.op := rfl
@[simp] theorem bitMicro_pos (s : State) : (bitMicro s).pos = s.pos + 1#7 := rfl
@[simp] theorem bitMicro_icnt (s : State) : (bitMicro s).icnt = s.icnt := rfl
@[simp] theorem bitMicro_workers (s : State) : (bitMicro s).workers = s.workers := rfl
@[simp] theorem bitMicro_phase (s : State) : (bitMicro s).phase = s.phase := rfl
@[simp] theorem bitMicro_script (s : State) : (bitMicro s).script = s.script := rfl
@[simp] theorem bitMicro_returned (s : State) : (bitMicro s).returned = s.returned := rfl
@[simp] theorem bitMicro_turns (s : State) : (bitMicro s).turns = s.turns := rfl
@[simp] theorem bitMicro_draws (s : State) : (bitMicro s).draws = s.draws := rfl
@[simp] theorem bitMicro_sequence (s : State) : (bitMicro s).sequence = s.sequence := rfl
@[simp] theorem bitMicro_numWorkers (s : State) : (bitMicro s).numWorkers = s.numWorkers := rfl

@[simp] theorem byteMicro_reg (s : State) : (byteMicro s).reg =
    byteStep s.tbl s.reg (byteAt s.sequence (s.pos.toNat / 8)) := rfl
@[simp] theorem byteMicro_bits (s : State) : (byteMicro s).bits = s.bits := rfl
@[simp] theorem byteMicro_len (s : State) : (byteMicro s).len = s.len := rfl
@[simp] theorem byteMicro_iter (s : State) : (byteMicro s).iter = s.iter := rfl
@[simp] theorem byteMicro_tbl (s : State) : (byteMicro s).tbl = s.tbl := rfl
@[simp] theorem byteMicro_busy (s : State) : (byteMicro s).busy = s.busy := rfl
@[simp] theorem byteMicro_done (s : State) : (byteMicro s).done = s.done := rfl
@[simp] theorem byteMicro_err (s : State) : (byteMicro s).err = s.err := rfl
@[simp] theorem byteMicro_errCode (s : State) : (byteMicro s).errCode = s.errCode := rfl
@[simp] theorem byteMicro_result (s : State) : (byteMicro s).result = s.result := rfl
@[simp] theorem byteMicro_elapsed (s : State) : (byteMicro s).elapsed = s.elapsed := rfl
@[simp] theorem byteMicro_tblIdx (s : State) : (byteMicro s).tblIdx = s.tblIdx := rfl
@[simp] theorem byteMicro_op (s : State) : (byteMicro s).op = s.op := rfl
@[simp] theorem byteMicro_pos (s : State) : (byteMicro s).pos = s.pos + 8#7 := rfl
@[simp] theorem byteMicro_icnt (s : State) : (byteMicro s).icnt = s.icnt := rfl
@[simp] theorem byteMicro_workers (s : State) : (byteMicro s).workers = s.workers := rfl
@[simp] theorem byteMicro_phase (s : State) : (byteMicro s).phase = s.phase := rfl
@[simp] theorem byteMicro_script (s : State) : (byteMicro s).script = s.script := rfl
@[simp] theorem byteMicro_returned (s : State) : (byteMicro s).returned = s.returned := rfl
@[simp] theorem byteMicro_turns (s : State) : (byteMicro s).turns = s.turns := rfl
@[simp] theorem byteMicro_draws (s : State) : (byteMicro s).draws = s.draws := rfl
@[simp] theorem byteMicro_sequence (s : State) : (byteMicro s).sequence = s.sequence := rfl
@[simp] theorem byteMicro_numWorkers (s : State) : (byteMicro s).numWorkers = s.numWorkers := rfl

@[simp] theorem storeResult_reg (s : State) : (storeResult s).reg = s.reg := rfl
@[simp] theorem storeResult_bits (s : State) : (storeResult s).bits = s.bits := rfl
@[simp] theorem storeResult_len (s : State) : (storeResult s).len = s.len := rfl
@[simp] theorem storeResult_iter (s : State) : (storeResult s).iter = s.iter := rfl
@[simp] theorem storeResult_tbl (s : State) : (storeResult s).tbl = s.tbl := rfl
@[simp] theorem storeResult_busy (s : State) : (storeResult s).busy = s.busy := rfl
@[simp] theorem storeResult_done (s : State) : (storeResult s).done = s.done := rfl
@[simp] theorem storeResult_err (s : State) : (storeResult s).err = s.err := rfl
@[simp] theorem storeResult_errCode (s : State) : (storeResult s).errCode = s.errCode := rfl
@[simp] theorem storeResult_result (s : State) : (storeResult s).result = crcWord s.reg := rfl
@[simp] theorem storeResult_elapsed (s : State) : (storeResult s).elapsed = s.elapsed := rfl
@[simp] theorem storeResult_tblIdx (s : State) : (storeResult s).tblIdx = s.tblIdx := rfl
@[simp] theorem storeResult_op (s : State) : (storeResult s).op = s.op := rfl
@[simp] theorem storeResult_pos (s : State) : (storeResult s).pos = s.pos := rfl
@[simp] theorem storeResult_icnt (s : State) : (storeResult s).icnt = s.icnt := rfl
@[simp] theorem storeResult_workers (s : State) : (storeResult s).workers = s.workers := rfl
@[simp] theorem storeResult_phase (s : State) : (storeResult s).phase = s.phase := rfl
@[simp] theorem storeResult_script (s : State) : (storeResult s).script = s.script := rfl
@[simp] theorem storeResult_returned (s : State) : (storeResult s).returned = s.returned := rfl
@[simp] theorem storeResult_turns (s : State) : (storeResult s).turns = s.turns := rfl
@[simp] theorem storeResult_draws (s : State) : (storeResult s).draws = s.draws := rfl
@[simp] theorem storeResult_sequence (s : State) : (storeResult s).sequence = s.sequence := rfl
@[simp] theorem storeResult_numWorkers (s : State) : (storeResult s).numWorkers =
    s.numWorkers := rfl

@[simp] theorem dispatchWorkers_reg (s : State) : (dispatchWorkers s).reg = s.reg := rfl
@[simp] theorem dispatchWorkers_bits (s : State) : (dispatchWorkers s).bits = s.bits := rfl
@[simp] theorem dispatchWorkers_len (s : State) : (dispatchWorkers s).len = s.len := rfl
@[simp] theorem dispatchWorkers_iter (s : State) : (dispatchWorkers s).iter = s.iter := rfl
@[simp] theorem dispatchWorkers_tbl (s : State) : (dispatchWorkers s).tbl = s.tbl := rfl
@[simp] theorem dispatchWorkers_busy (s : State) : (dispatchWorkers s).busy = s.busy := rfl
@[simp] theorem dispatchWorkers_done (s : State) : (dispatchWorkers s).done = s.done := rfl
@[simp] theorem dispatchWorkers_err (s : State) : (dispatchWorkers s).err = s.err := rfl
@[simp] theorem dispatchWorkers_errCode (s : State) : (dispatchWorkers s).errCode = s.errCode := rfl
@[simp] theorem dispatchWorkers_result (s : State) : (dispatchWorkers s).result = s.result := rfl
@[simp] theorem dispatchWorkers_elapsed (s : State) : (dispatchWorkers s).elapsed = s.elapsed := rfl
@[simp] theorem dispatchWorkers_tblIdx (s : State) : (dispatchWorkers s).tblIdx = s.tblIdx := rfl
@[simp] theorem dispatchWorkers_op (s : State) : (dispatchWorkers s).op = s.op := rfl
@[simp] theorem dispatchWorkers_pos (s : State) : (dispatchWorkers s).pos = s.pos := rfl
@[simp] theorem dispatchWorkers_icnt (s : State) : (dispatchWorkers s).icnt = s.icnt := rfl
@[simp] theorem dispatchWorkers_workers (s : State) : (dispatchWorkers s).workers =
    s.workers.mapIdx (assignQuota s.iter.toNat s.numWorkers) := rfl
@[simp] theorem dispatchWorkers_phase (s : State) : (dispatchWorkers s).phase = .join := rfl
@[simp] theorem dispatchWorkers_script (s : State) : (dispatchWorkers s).script = s.script := rfl
@[simp] theorem dispatchWorkers_returned (s : State) : (dispatchWorkers s).returned =
    s.returned := rfl
@[simp] theorem dispatchWorkers_turns (s : State) : (dispatchWorkers s).turns = s.turns := rfl
@[simp] theorem dispatchWorkers_draws (s : State) : (dispatchWorkers s).draws = s.draws := rfl
@[simp] theorem dispatchWorkers_sequence (s : State) : (dispatchWorkers s).sequence =
    s.sequence := rfl

@[simp] theorem iterationStep_reg (w : Nat) (k : Worker) (s : State) : (iterationStep w k s).reg =
    s.reg := rfl
@[simp] theorem iterationStep_bits (w : Nat) (k : Worker) (s : State) : (iterationStep w k s).bits =
    s.bits := rfl
@[simp] theorem iterationStep_len (w : Nat) (k : Worker) (s : State) : (iterationStep w k s).len =
    s.len := rfl
@[simp] theorem iterationStep_iter (w : Nat) (k : Worker) (s : State) : (iterationStep w k s).iter =
    s.iter := rfl
@[simp] theorem iterationStep_tbl (w : Nat) (k : Worker) (s : State) : (iterationStep w k s).tbl =
    s.tbl := rfl
@[simp] theorem iterationStep_busy (w : Nat) (k : Worker) (s : State) : (iterationStep w k s).busy =
    s.busy := rfl
@[simp] theorem iterationStep_done (w : Nat) (k : Worker) (s : State) : (iterationStep w k s).done =
    s.done := rfl
@[simp] theorem iterationStep_err (w : Nat) (k : Worker) (s : State) : (iterationStep w k s).err =
    s.err := rfl
@[simp] theorem iterationStep_errCode (w : Nat) (k : Worker) (s : State) : (iterationStep w k s).errCode =
    s.errCode := rfl
@[simp] theorem iterationStep_result (w : Nat) (k : Worker) (s : State) : (iterationStep w k s).result =
    s.result := rfl
@[simp] theorem iterationStep_elapsed (w : Nat) (k : Worker) (s : State) : (iterationStep w k s).elapsed =
    s.elapsed := rfl
@[simp] theorem iterationStep_tblIdx (w : Nat) (k : Worker) (s : State) : (iterationStep w k s).tblIdx =
    s.tblIdx := rfl
@[simp] theorem iterationStep_op (w : Nat) (k : Worker) (s : State) : (iterationStep w k s).op =
    s.op := rfl
@[simp] theorem iterationStep_pos (w : Nat) (k : Worker) (s : State) : (iterationStep w k s).pos =
    s.pos := rfl
@[simp] theorem iterationStep_icnt (w : Nat) (k : Worker) (s : State) : (iterationStep w k s).icnt =
    s.icnt := rfl
@[simp] theorem iterationStep_workers (w : Nat) (k : Worker) (s : State) : (iterationStep w k s).workers =
    s.workers.set w { k with reg := crcFast s.tbl s.sequence, count := k.count + 1#64 } := rfl
@[simp] theorem iterationStep_phase (w : Nat) (k : Worker) (s : State) : (iterationStep w k s).phase =
    s.phase := rfl
@[simp] theorem iterationStep_script (w : Nat) (k : Worker) (s : State) : (iterationStep w k s).script =
    s.script := rfl
@[simp] theorem iterationStep_returned (w : Nat) (k : Worker) (s : State) : (iterationStep w k s).returned =
    s.returned := rfl
@[simp] theorem iterationStep_turns (w : Nat) (k : Worker) (s : State) : (iterationStep w k s).turns =
    s.turns := rfl
@[simp] theorem iterationStep_draws (w : Nat) (k : Worker) (s : State) : (iterationStep w k s).draws =
    s.draws := rfl
@[simp] theorem iterationStep_sequence (w : Nat) (k : Worker) (s : State) : (iterationStep w k s).sequence =
    s.sequence := rfl

@[simp] theorem finalStep_reg (w : Nat) (k : Worker) (s : State) : (finalStep w k s).reg =
    s.reg := rfl
@[simp] theorem finalStep_bits (w : Nat) (k : Worker) (s : State) : (finalStep w k s).bits =
    s.bits := rfl
@[simp] theorem finalStep_len (w : Nat) (k : Worker) (s : State) : (finalStep w k s).len =
    s.len := rfl
@[simp] theorem finalStep_iter (w : Nat) (k : Worker) (s : State) : (finalStep w k s).iter =
    s.iter := rfl
@[simp] theorem finalStep_tbl (w : Nat) (k : Worker) (s : State) : (finalStep w k s).tbl =
    s.tbl := rfl
@[simp] theorem finalStep_busy (w : Nat) (k : Worker) (s : State) : (finalStep w k s).busy =
    s.busy := rfl
@[simp] theorem finalStep_done (w : Nat) (k : Worker) (s : State) : (finalStep w k s).done =
    s.done := rfl
@[simp] theorem finalStep_err (w : Nat) (k : Worker) (s : State) : (finalStep w k s).err =
    s.err := rfl
@[simp] theorem finalStep_errCode (w : Nat) (k : Worker) (s : State) : (finalStep w k s).errCode =
    s.errCode := rfl
@[simp] theorem finalStep_result (w : Nat) (k : Worker) (s : State) : (finalStep w k s).result =
    if 0 < k.quota.toNat then crcWord k.reg else s.result := rfl
@[simp] theorem finalStep_elapsed (w : Nat) (k : Worker) (s : State) : (finalStep w k s).elapsed =
    s.elapsed := rfl
@[simp] theorem finalStep_tblIdx (w : Nat) (k : Worker) (s : State) : (finalStep w k s).tblIdx =
    s.tblIdx := rfl
@[simp] theorem finalStep_op (w : Nat) (k : Worker) (s : State) : (finalStep w k s).op = s.op := rfl
@[simp] theorem finalStep_pos (w : Nat) (k : Worker) (s : State) : (finalStep w k s).pos =
    s.pos := rfl
@[simp] theorem finalStep_icnt (w : Nat) (k : Worker) (s : State) : (finalStep w k s).icnt =
    s.icnt := rfl
@[simp] theorem finalStep_workers (w : Nat) (k : Worker) (s : State) : (finalStep w k s).workers =
    s.workers.set w { k with fin := true } := rfl
@[simp] theorem finalStep_phase (w : Nat) (k : Worker) (s : State) : (finalStep w k s).phase =
    s.phase := rfl
@[simp] theorem finalStep_script (w : Nat) (k : Worker) (s : State) : (finalStep w k s).script =
    s.script := rfl
@[simp] theorem finalStep_returned (w : Nat) (k : Worker) (s : State) : (finalStep w k s).returned =
    s.returned := rfl
@[simp] theorem finalStep_turns (w : Nat) (k : Worker) (s : State) : (finalStep w k s).turns =
    s.turns := rfl
@[simp] theorem finalStep_draws (w : Nat) (k : Worker) (s : State) : (finalStep w k s).draws =
    s.draws := rfl
@[simp] theorem finalStep_sequence (w : Nat) (k : Worker) (s : State) : (finalStep w k s).sequence =
    s.sequence := rfl

@[simp] theorem takeTurn_reg (s : State) : (takeTurn s).reg = s.reg := by
  unfold takeTurn; split <;> rfl
@[simp] theorem takeTurn_bits (s : State) : (takeTurn s).bits = s.bits := by
  unfold takeTurn; split <;> rfl
@[simp] theorem takeTurn_len (s : State) : (takeTurn s).len = s.len := by
  unfold takeTurn; split <;> rfl
@[simp] theorem takeTurn_iter (s : State) : (takeTurn s).iter = s.iter := by
  unfold takeTurn; split <;> rfl
@[simp] theorem takeTurn_tbl (s : State) : (takeTurn s).tbl = s.tbl := by
  unfold takeTurn; split <;> rfl
@[simp] theorem takeTurn_busy (s : State) : (takeTurn s).busy = s.busy := by
  unfold takeTurn; split <;> rfl
@[simp] theorem takeTurn_done (s : State) : (takeTurn s).done = s.done := by
  unfold takeTurn; split <;> rfl
@[simp] theorem takeTurn_err (s : State) : (takeTurn s).err = s.err := by
  unfold takeTurn; split <;> rfl
@[simp] theorem takeTurn_errCode (s : State) : (takeTurn s).errCode = s.errCode := by
  unfold takeTurn; split <;> rfl
@[simp] theorem takeTurn_result (s : State) : (takeTurn s).result = s.result := by
  unfold takeTurn; split <;> rfl
@[simp] theorem takeTurn_elapsed (s : State) : (takeTurn s).elapsed = s.elapsed := by
  unfold takeTurn; split <;> rfl
@[simp] theorem takeTurn_tblIdx (s : State) : (takeTurn s).tblIdx = s.tblIdx := by
  unfold takeTurn; split <;> rfl
@[simp] theorem takeTurn_op (s : State) : (takeTurn s).op = s.op := by
  unfold takeTurn; split <;> rfl
@[simp] theorem takeTurn_pos (s : State) : (takeTurn s).pos = s.pos := by
  unfold takeTurn; split <;> rfl
@[simp] theorem takeTurn_icnt (s : State) : (takeTurn s).icnt = s.icnt := by
  unfold takeTurn; split <;> rfl
@[simp] theorem takeTurn_workers (s : State) : (takeTurn s).workers = s.workers := by
  unfold takeTurn; split <;> rfl
@[simp] theorem takeTurn_phase (s : State) : (takeTurn s).phase = s.phase := by
  unfold takeTurn; split <;> rfl
@[simp] theorem takeTurn_script (s : State) : (takeTurn s).script = s.script := by
  unfold takeTurn; split <;> rfl
@[simp] theorem takeTurn_returned (s : State) : (takeTurn s).returned = s.returned := by
  unfold takeTurn; split <;> rfl
@[simp] theorem takeTurn_sequence (s : State) : (takeTurn s).sequence = s.sequence := by
  unfold takeTurn; split <;> rfl
@[simp] theorem takeTurn_numWorkers (s : State) : (takeTurn s).numWorkers = s.numWorkers := by
  unfold takeTurn; split <;> rfl
@[simp] theorem takeTurn_cons (s : State) (t : Turn) (ts : List Turn) (h : s.turns = t :: ts) :
    takeTurn s = { s with turns := ts } := by
  simp [takeTurn, h]
@[simp] theorem nextTurn_cons (s : State) (t : Turn) (ts : List Turn) (h : s.turns = t :: ts) :
    nextTurn s = t := by
  simp [nextTurn, h]

@[simp] theorem resetEvent_reg (s : State) : (resetEvent s).reg = 0#15 := rfl
@[simp] theorem resetEvent_bits (s : State) : (resetEvent s).bits = 0#96 := rfl
@[simp] theorem resetEvent_len (s : State) : (resetEvent s).len = 0#7 := rfl
@[simp] theorem resetEvent_iter (s : State) : (resetEvent s).iter = 0#64 := rfl
@[simp] theorem resetEvent_tbl (s : State) : (resetEvent s).tbl = canonTable := rfl
@[simp] theorem resetEvent_busy (s : State) : (resetEvent s).busy = false := rfl
@[simp] theorem resetEvent_done (s : State) : (resetEvent s).done = false := rfl
@[simp] theorem resetEvent_err (s : State) : (resetEvent s).err = false := rfl
@[simp] theorem resetEvent_errCode (s : State) : (resetEvent s).errCode = 0#3 := rfl
@[simp] theorem resetEvent_result (s : State) : (resetEvent s).result = 0#16 := rfl
@[simp] theorem resetEvent_elapsed (s : State) : (resetEvent s).elapsed = 0#64 := rfl
@[simp] theorem resetEvent_tblIdx (s : State) : (resetEvent s).tblIdx = 0#8 := rfl
@[simp] theorem resetEvent_op (s : State) : (resetEvent s).op = 0#4 := rfl
@[simp] theorem resetEvent_pos (s : State) : (resetEvent s).pos = 0#7 := rfl
@[simp] theorem resetEvent_icnt (s : State) : (resetEvent s).icnt = 0#64 := rfl
@[simp] theorem resetEvent_workers (s : State) : (resetEvent s).workers =
    List.replicate s.numWorkers Worker.reset := rfl
@[simp] theorem resetEvent_phase (s : State) : (resetEvent s).phase = .start := rfl
@[simp] theorem resetEvent_script (s : State) : (resetEvent s).script = s.script := rfl
@[simp] theorem resetEvent_returned (s : State) : (resetEvent s).returned = s.returned := rfl
@[simp] theorem resetEvent_turns (s : State) : (resetEvent s).turns = s.turns := rfl
@[simp] theorem resetEvent_draws (s : State) : (resetEvent s).draws = s.draws := rfl
@[simp] theorem resetEvent_numWorkers (s : State) : (resetEvent s).numWorkers = s.numWorkers := by
  simp [State.numWorkers]

@[simp] theorem dispatchWorkers_numWorkers (s : State) :
    (dispatchWorkers s).numWorkers = s.numWorkers := by
  simp [State.numWorkers]
@[simp] theorem iterationStep_numWorkers (w : Nat) (k : Worker) (s : State) :
    (iterationStep w k s).numWorkers = s.numWorkers := by
  simp [State.numWorkers]
@[simp] theorem finalStep_numWorkers (w : Nat) (k : Worker) (s : State) :
    (finalStep w k s).numWorkers = s.numWorkers := by
  simp [State.numWorkers]

end Sys2Proof.Machine
end

