-- ==== Sys2Proof/Laws/Ops.lean ====
section
/-! SUPPORT. Everything the shared operations and the meanings can do, said once. -/

namespace Sys2Proof.Machine

theorem whenIdle_busy (f : State → State) (s : State) (h : s.busy = true) : whenIdle f s = s := by
  simp [whenIdle, h]

theorem whenIdle_idle (f : State → State) (s : State) (h : s.busy = false) :
    whenIdle f s = f s := by
  simp [whenIdle, h]

@[simp] theorem commandOf_code (c : Command) : commandOf c.code = some c := by
  cases c <;> rfl

theorem commandOf_eq_some (op : BitVec 4) (c : Command) : commandOf op = some c ↔ op = c.code := by
  constructor
  · intro h
    apply BitVec.eq_of_toNat_eq
    unfold commandOf at h
    split at h <;> simp_all <;> subst h <;> rfl
  · rintro rfl
    exact commandOf_code c

/-- The check reads `LEN` and `ITER` alone. -/
theorem check_forgetOutcome (c : Command) (s : State) : check c (forgetOutcome s) = check c s := rfl

theorem check_eq_none (c : Command) (s : State) :
    check c s = none ↔
      (c ≠ .tblBuild → 1 ≤ s.len.toNat ∧ s.len.toNat ≤ Config.maxBits) ∧
      (c = .runBatch → Config.iterMin ≤ s.iter.toNat ∧ s.iter.toNat ≤ Config.iterMax) := by
  cases c <;> simp only [check, checkLength, checkIterations, Option.or_eq_none_iff] <;>
    (try split_ifs) <;> simp <;> omega

/-- What a `CTRL` write can do: nothing while busy; otherwise a refusal or an acceptance, after the
previous outcome is forgotten. -/
theorem ctrlWrite_cases (op : BitVec 4) (s : State) :
    (s.busy = true ∧ ctrlWrite op s = s) ∨
    (s.busy = false ∧ ∃ e, ctrlWrite op s = refuse e (forgetOutcome s)) ∨
    (s.busy = false ∧ ∃ c, op = Command.code c ∧ check c s = none ∧
      ctrlWrite op s = accept op (forgetOutcome s)) := by
  unfold ctrlWrite
  cases hb : s.busy
  · right
    simp only [Bool.false_eq_true, if_false, check_forgetOutcome, true_and]
    cases hc : commandOf op with
    | none => exact .inl ⟨_, rfl⟩
    | some c =>
      cases he : check c s with
      | some e => exact .inl ⟨e, by simp only [he]⟩
      | none => exact .inr ⟨c, (commandOf_eq_some op c).1 hc, he, by simp only [he]⟩
  · simp

/-- What a meaning that answers a next state can have done. -/
inductive ExecEffect (s : State) : State → Prop where
  /-- A read, or a write that is ignored. -/
  | observed (r : List Word) (d : Nat) : ExecEffect s { s with returned := r, draws := d }
  /-- A `CTRL` write. -/
  | command (op : BitVec 4) : ExecEffect s (ctrlWrite op s)
  /-- A write of an input register while idle. -/
  | input (b : BitVec 96) (l : BitVec 7) (n : BitVec 64) (idle : s.busy = false) :
      ExecEffect s { s with bits := b, len := l, iter := n }
  /-- A write of `TBL_IDX`. -/
  | index (x : BitVec 8) : ExecEffect s { s with tblIdx := x }

theorem whenIdle_effect (s : State) (f : State → State) (b : BitVec 96) (l : BitVec 7)
    (n : BitVec 64) (hf : f s = { s with bits := b, len := l, iter := n }) :
    ExecEffect s (whenIdle f s) := by
  cases h : s.busy
  · rw [whenIdle_idle f s h, hf]
    exact .input b l n h
  · rw [whenIdle_busy f s h]
    exact .observed s.returned s.draws

/-- Every instruction answers a next state of one of the four kinds, or is refused as misaligned. -/
theorem exec_cases (i : Instr) (s : State) :
    (∃ t, exec i s = .next t ∧ ExecEffect s t) ∨ exec i s = .refused .misalignedOffset := by
  cases i
  case misalignedOdd => exact .inr rfl
  case misalignedHalf => exact .inr rfl
  all_goals left
  case rdCrc =>
    simp only [exec, execRdCrc]
    split <;> exact ⟨_, rfl, .observed _ _⟩
  case wrLen v => exact ⟨_, rfl, whenIdle_effect s _ s.bits (v.setWidth 7) s.iter rfl⟩
  case wrIterLo v =>
    exact ⟨_, rfl, whenIdle_effect s _ s.bits s.len (ofHalves (highHalf s.iter) v) rfl⟩
  case wrIterHi v =>
    exact ⟨_, rfl, whenIdle_effect s _ s.bits s.len (ofHalves v (lowHalf s.iter)) rfl⟩
  case wrData0 v =>
    exact ⟨_, rfl, whenIdle_effect s _ (withDataWord s.bits 0 v) s.len s.iter rfl⟩
  case wrData1 v =>
    exact ⟨_, rfl, whenIdle_effect s _ (withDataWord s.bits 1 v) s.len s.iter rfl⟩
  case wrData2 v =>
    exact ⟨_, rfl, whenIdle_effect s _ (withDataWord s.bits 2 v) s.len s.iter rfl⟩
  case wrTblIdx v => exact ⟨_, rfl, .index _⟩
  all_goals first
    | exact ⟨_, rfl, .command _⟩
    | exact ⟨_, rfl, .observed (_ :: s.returned) s.draws⟩
    | exact ⟨_, rfl, .observed s.returned s.draws⟩

/-- If a meaning answers next, its effect is one of the four kinds. -/
theorem exec_effect (i : Instr) (s t : State) (h : exec i s = .next t) : ExecEffect s t := by
  rcases exec_cases i s with ⟨t', ht', he⟩ | hr
  · rw [ht'] at h
    cases h
    exact he
  · rw [hr] at h
    cases h

/-- The only meanings that can change the flags and the engine's latch are the `CTRL` writes, and such a
word has offset 0 and its code in its low four bits. -/
theorem exec_ctrl_or_quiet (x : Txn) (s t : State) (h : exec (decode x) s = .next t) :
    (x.dir = .write ∧ x.off = 0x00#8 ∧ t = ctrlWrite (x.data.extractLsb' 0 4) s) ∨
    (t.busy = s.busy ∧ t.done = s.done ∧ t.err = s.err ∧ t.errCode = s.errCode ∧ t.op = s.op ∧
      t.phase = s.phase) := by
  have hq : ∀ t, (∃ r d, t = { s with returned := r, draws := d }) ∨
      (∃ b l n, t = whenIdle (fun s => { s with bits := b, len := l, iter := n }) s) ∨
      (∃ y, t = { s with tblIdx := y }) →
      t.busy = s.busy ∧ t.done = s.done ∧ t.err = s.err ∧ t.errCode = s.errCode ∧ t.op = s.op ∧
        t.phase = s.phase := by
    rintro t (⟨r, d, rfl⟩ | ⟨b, l, n, rfl⟩ | ⟨y, rfl⟩)
    · simp
    · unfold whenIdle
      split <;> simp
    · simp
  unfold decode at h
  split at h
  · cases h
  split at h
  · cases h
  split at h
  · right
    apply hq
    unfold decodeRead at h
    split at h
    case h_9 =>
      left
      simp only [exec, execRdCrc] at h
      split at h <;> cases h <;> exact ⟨_, _, rfl⟩
    case h_15 =>
      left
      split_ifs at h <;> cases h <;> exact ⟨_, s.draws, rfl⟩
    all_goals
      left
      cases h
      exact ⟨_, s.draws, rfl⟩
  · rename_i hd
    unfold decodeWrite at h
    split at h
    case h_1 hr =>
      left
      refine ⟨hd, regAt_eq_some _ _ hr, ?_⟩
      generalize x.data = v at h ⊢
      have hv := ctrlData_fields v
      generalize v.extractLsb' 0 4 = c at hv ⊢
      generalize v.extractLsb' 4 28 = ig at hv
      subst hv
      simp only [decodeCommand, code_ctrlData, ignored_ctrlData] at h
      obtain ⟨k, rfl⟩ : ∃ k : Fin 16, c = BitVec.ofNat 4 k.val := ⟨⟨c.toNat, c.isLt⟩, by simp⟩
      fin_cases k <;> cases h <;> rfl
    all_goals
      right
      apply hq
    case h_3 =>
      right; left
      cases h
      exact ⟨s.bits, _, s.iter, rfl⟩
    case h_4 | h_5 =>
      right; left
      cases h
      exact ⟨s.bits, s.len, _, rfl⟩
    case h_6 | h_7 | h_8 =>
      right; left
      cases h
      exact ⟨_, s.len, s.iter, rfl⟩
    case h_13 =>
      right; right
      cases h
      exact ⟨_, rfl⟩
    case h_15 =>
      left
      split_ifs at h <;> cases h <;> exact ⟨s.returned, s.draws, rfl⟩
    all_goals
      left
      cases h
      exact ⟨s.returned, s.draws, rfl⟩

end Sys2Proof.Machine
end

