-- ==== Sys2Proof/Laws/Engine.lean ====
section
/-! SUPPORT. What a step of ENG or of a worker leaves unchanged, and the steps it can be. -/

namespace Sys2Proof.Machine

@[simp] theorem fastBody_bits (after : State → State) (s : State)
    (h : (after s).bits = s.bits) : (fastBody after s).bits = s.bits := by
  unfold fastBody
  split_ifs <;> simp [h]
@[simp] theorem countComputation_bits (s : State) : (countComputation s).bits = s.bits := by
  unfold countComputation
  dsimp only
  split_ifs <;> simp
@[simp] theorem crcRefStep_bits (s : State) : (crcRefStep s).bits = s.bits := by
  unfold crcRefStep
  split <;> (try split_ifs) <;> simp
@[simp] theorem crcFastStep_bits (s : State) : (crcFastStep s).bits = s.bits := by
  unfold crcFastStep
  split <;> first | rfl | exact fastBody_bits _ _ rfl
@[simp] theorem tblBuildStep_bits (s : State) : (tblBuildStep s).bits = s.bits := by
  unfold tblBuildStep
  split <;> simp
@[simp] theorem runBatchStep_bits (s : State) : (runBatchStep s).bits = s.bits := by
  unfold runBatchStep
  split <;> (try split) <;> simp [beginLoop]
@[simp] theorem engStep_bits (s : State) : (engStep s).bits = s.bits := by
  unfold engStep
  split <;> (try split) <;> simp

@[simp] theorem fastBody_len (after : State → State) (s : State)
    (h : (after s).len = s.len) : (fastBody after s).len = s.len := by
  unfold fastBody
  split_ifs <;> simp [h]
@[simp] theorem countComputation_len (s : State) : (countComputation s).len = s.len := by
  unfold countComputation
  dsimp only
  split_ifs <;> simp
@[simp] theorem crcRefStep_len (s : State) : (crcRefStep s).len = s.len := by
  unfold crcRefStep
  split <;> (try split_ifs) <;> simp
@[simp] theorem crcFastStep_len (s : State) : (crcFastStep s).len = s.len := by
  unfold crcFastStep
  split <;> first | rfl | exact fastBody_len _ _ rfl
@[simp] theorem tblBuildStep_len (s : State) : (tblBuildStep s).len = s.len := by
  unfold tblBuildStep
  split <;> simp
@[simp] theorem runBatchStep_len (s : State) : (runBatchStep s).len = s.len := by
  unfold runBatchStep
  split <;> (try split) <;> simp [beginLoop]
@[simp] theorem engStep_len (s : State) : (engStep s).len = s.len := by
  unfold engStep
  split <;> (try split) <;> simp

@[simp] theorem fastBody_iter (after : State → State) (s : State)
    (h : (after s).iter = s.iter) : (fastBody after s).iter = s.iter := by
  unfold fastBody
  split_ifs <;> simp [h]
@[simp] theorem countComputation_iter (s : State) : (countComputation s).iter = s.iter := by
  unfold countComputation
  dsimp only
  split_ifs <;> simp
@[simp] theorem crcRefStep_iter (s : State) : (crcRefStep s).iter = s.iter := by
  unfold crcRefStep
  split <;> (try split_ifs) <;> simp
@[simp] theorem crcFastStep_iter (s : State) : (crcFastStep s).iter = s.iter := by
  unfold crcFastStep
  split <;> first | rfl | exact fastBody_iter _ _ rfl
@[simp] theorem tblBuildStep_iter (s : State) : (tblBuildStep s).iter = s.iter := by
  unfold tblBuildStep
  split <;> simp
@[simp] theorem runBatchStep_iter (s : State) : (runBatchStep s).iter = s.iter := by
  unfold runBatchStep
  split <;> (try split) <;> simp [beginLoop]
@[simp] theorem engStep_iter (s : State) : (engStep s).iter = s.iter := by
  unfold engStep
  split <;> (try split) <;> simp

@[simp] theorem fastBody_tblIdx (after : State → State) (s : State)
    (h : (after s).tblIdx = s.tblIdx) : (fastBody after s).tblIdx = s.tblIdx := by
  unfold fastBody
  split_ifs <;> simp [h]
@[simp] theorem countComputation_tblIdx (s : State) : (countComputation s).tblIdx = s.tblIdx := by
  unfold countComputation
  dsimp only
  split_ifs <;> simp
@[simp] theorem crcRefStep_tblIdx (s : State) : (crcRefStep s).tblIdx = s.tblIdx := by
  unfold crcRefStep
  split <;> (try split_ifs) <;> simp
@[simp] theorem crcFastStep_tblIdx (s : State) : (crcFastStep s).tblIdx = s.tblIdx := by
  unfold crcFastStep
  split <;> first | rfl | exact fastBody_tblIdx _ _ rfl
@[simp] theorem tblBuildStep_tblIdx (s : State) : (tblBuildStep s).tblIdx = s.tblIdx := by
  unfold tblBuildStep
  split <;> simp
@[simp] theorem runBatchStep_tblIdx (s : State) : (runBatchStep s).tblIdx = s.tblIdx := by
  unfold runBatchStep
  split <;> (try split) <;> simp [beginLoop]
@[simp] theorem engStep_tblIdx (s : State) : (engStep s).tblIdx = s.tblIdx := by
  unfold engStep
  split <;> (try split) <;> simp

@[simp] theorem fastBody_op (after : State → State) (s : State)
    (h : (after s).op = s.op) : (fastBody after s).op = s.op := by
  unfold fastBody
  split_ifs <;> simp [h]
@[simp] theorem countComputation_op (s : State) : (countComputation s).op = s.op := by
  unfold countComputation
  dsimp only
  split_ifs <;> simp
@[simp] theorem crcRefStep_op (s : State) : (crcRefStep s).op = s.op := by
  unfold crcRefStep
  split <;> (try split_ifs) <;> simp
@[simp] theorem crcFastStep_op (s : State) : (crcFastStep s).op = s.op := by
  unfold crcFastStep
  split <;> first | rfl | exact fastBody_op _ _ rfl
@[simp] theorem tblBuildStep_op (s : State) : (tblBuildStep s).op = s.op := by
  unfold tblBuildStep
  split <;> simp
@[simp] theorem runBatchStep_op (s : State) : (runBatchStep s).op = s.op := by
  unfold runBatchStep
  split <;> (try split) <;> simp [beginLoop]
@[simp] theorem engStep_op (s : State) : (engStep s).op = s.op := by
  unfold engStep
  split <;> (try split) <;> simp

@[simp] theorem fastBody_err (after : State → State) (s : State)
    (h : (after s).err = s.err) : (fastBody after s).err = s.err := by
  unfold fastBody
  split_ifs <;> simp [h]
@[simp] theorem countComputation_err (s : State) : (countComputation s).err = s.err := by
  unfold countComputation
  dsimp only
  split_ifs <;> simp
@[simp] theorem crcRefStep_err (s : State) : (crcRefStep s).err = s.err := by
  unfold crcRefStep
  split <;> (try split_ifs) <;> simp
@[simp] theorem crcFastStep_err (s : State) : (crcFastStep s).err = s.err := by
  unfold crcFastStep
  split <;> first | rfl | exact fastBody_err _ _ rfl
@[simp] theorem tblBuildStep_err (s : State) : (tblBuildStep s).err = s.err := by
  unfold tblBuildStep
  split <;> simp
@[simp] theorem runBatchStep_err (s : State) : (runBatchStep s).err = s.err := by
  unfold runBatchStep
  split <;> (try split) <;> simp [beginLoop]
@[simp] theorem engStep_err (s : State) : (engStep s).err = s.err := by
  unfold engStep
  split <;> (try split) <;> simp

@[simp] theorem fastBody_errCode (after : State → State) (s : State)
    (h : (after s).errCode = s.errCode) : (fastBody after s).errCode = s.errCode := by
  unfold fastBody
  split_ifs <;> simp [h]
@[simp] theorem countComputation_errCode (s : State) : (countComputation s).errCode = s.errCode := by
  unfold countComputation
  dsimp only
  split_ifs <;> simp
@[simp] theorem crcRefStep_errCode (s : State) : (crcRefStep s).errCode = s.errCode := by
  unfold crcRefStep
  split <;> (try split_ifs) <;> simp
@[simp] theorem crcFastStep_errCode (s : State) : (crcFastStep s).errCode = s.errCode := by
  unfold crcFastStep
  split <;> first | rfl | exact fastBody_errCode _ _ rfl
@[simp] theorem tblBuildStep_errCode (s : State) : (tblBuildStep s).errCode = s.errCode := by
  unfold tblBuildStep
  split <;> simp
@[simp] theorem runBatchStep_errCode (s : State) : (runBatchStep s).errCode = s.errCode := by
  unfold runBatchStep
  split <;> (try split) <;> simp [beginLoop]
@[simp] theorem engStep_errCode (s : State) : (engStep s).errCode = s.errCode := by
  unfold engStep
  split <;> (try split) <;> simp

@[simp] theorem fastBody_script (after : State → State) (s : State)
    (h : (after s).script = s.script) : (fastBody after s).script = s.script := by
  unfold fastBody
  split_ifs <;> simp [h]
@[simp] theorem countComputation_script (s : State) : (countComputation s).script = s.script := by
  unfold countComputation
  dsimp only
  split_ifs <;> simp
@[simp] theorem crcRefStep_script (s : State) : (crcRefStep s).script = s.script := by
  unfold crcRefStep
  split <;> (try split_ifs) <;> simp
@[simp] theorem crcFastStep_script (s : State) : (crcFastStep s).script = s.script := by
  unfold crcFastStep
  split <;> first | rfl | exact fastBody_script _ _ rfl
@[simp] theorem tblBuildStep_script (s : State) : (tblBuildStep s).script = s.script := by
  unfold tblBuildStep
  split <;> simp
@[simp] theorem runBatchStep_script (s : State) : (runBatchStep s).script = s.script := by
  unfold runBatchStep
  split <;> (try split) <;> simp [beginLoop]
@[simp] theorem engStep_script (s : State) : (engStep s).script = s.script := by
  unfold engStep
  split <;> (try split) <;> simp

@[simp] theorem fastBody_returned (after : State → State) (s : State)
    (h : (after s).returned = s.returned) : (fastBody after s).returned = s.returned := by
  unfold fastBody
  split_ifs <;> simp [h]
@[simp] theorem countComputation_returned (s : State) : (countComputation s).returned = s.returned := by
  unfold countComputation
  dsimp only
  split_ifs <;> simp
@[simp] theorem crcRefStep_returned (s : State) : (crcRefStep s).returned = s.returned := by
  unfold crcRefStep
  split <;> (try split_ifs) <;> simp
@[simp] theorem crcFastStep_returned (s : State) : (crcFastStep s).returned = s.returned := by
  unfold crcFastStep
  split <;> first | rfl | exact fastBody_returned _ _ rfl
@[simp] theorem tblBuildStep_returned (s : State) : (tblBuildStep s).returned = s.returned := by
  unfold tblBuildStep
  split <;> simp
@[simp] theorem runBatchStep_returned (s : State) : (runBatchStep s).returned = s.returned := by
  unfold runBatchStep
  split <;> (try split) <;> simp [beginLoop]
@[simp] theorem engStep_returned (s : State) : (engStep s).returned = s.returned := by
  unfold engStep
  split <;> (try split) <;> simp

@[simp] theorem fastBody_turns (after : State → State) (s : State)
    (h : (after s).turns = s.turns) : (fastBody after s).turns = s.turns := by
  unfold fastBody
  split_ifs <;> simp [h]
@[simp] theorem countComputation_turns (s : State) : (countComputation s).turns = s.turns := by
  unfold countComputation
  dsimp only
  split_ifs <;> simp
@[simp] theorem crcRefStep_turns (s : State) : (crcRefStep s).turns = s.turns := by
  unfold crcRefStep
  split <;> (try split_ifs) <;> simp
@[simp] theorem crcFastStep_turns (s : State) : (crcFastStep s).turns = s.turns := by
  unfold crcFastStep
  split <;> first | rfl | exact fastBody_turns _ _ rfl
@[simp] theorem tblBuildStep_turns (s : State) : (tblBuildStep s).turns = s.turns := by
  unfold tblBuildStep
  split <;> simp
@[simp] theorem runBatchStep_turns (s : State) : (runBatchStep s).turns = s.turns := by
  unfold runBatchStep
  split <;> (try split) <;> simp [beginLoop]
@[simp] theorem engStep_turns (s : State) : (engStep s).turns = s.turns := by
  unfold engStep
  split <;> (try split) <;> simp

@[simp] theorem workerStep_reg (w : Nat) (s : State) : (workerStep w s).reg = s.reg := by
  unfold workerStep
  split <;> (try split) <;> (try split_ifs) <;> simp
@[simp] theorem workerStep_bits (w : Nat) (s : State) : (workerStep w s).bits = s.bits := by
  unfold workerStep
  split <;> (try split) <;> (try split_ifs) <;> simp
@[simp] theorem workerStep_len (w : Nat) (s : State) : (workerStep w s).len = s.len := by
  unfold workerStep
  split <;> (try split) <;> (try split_ifs) <;> simp
@[simp] theorem workerStep_iter (w : Nat) (s : State) : (workerStep w s).iter = s.iter := by
  unfold workerStep
  split <;> (try split) <;> (try split_ifs) <;> simp
@[simp] theorem workerStep_tbl (w : Nat) (s : State) : (workerStep w s).tbl = s.tbl := by
  unfold workerStep
  split <;> (try split) <;> (try split_ifs) <;> simp
@[simp] theorem workerStep_busy (w : Nat) (s : State) : (workerStep w s).busy = s.busy := by
  unfold workerStep
  split <;> (try split) <;> (try split_ifs) <;> simp
@[simp] theorem workerStep_done (w : Nat) (s : State) : (workerStep w s).done = s.done := by
  unfold workerStep
  split <;> (try split) <;> (try split_ifs) <;> simp
@[simp] theorem workerStep_err (w : Nat) (s : State) : (workerStep w s).err = s.err := by
  unfold workerStep
  split <;> (try split) <;> (try split_ifs) <;> simp
@[simp] theorem workerStep_errCode (w : Nat) (s : State) : (workerStep w s).errCode = s.errCode := by
  unfold workerStep
  split <;> (try split) <;> (try split_ifs) <;> simp
@[simp] theorem workerStep_elapsed (w : Nat) (s : State) : (workerStep w s).elapsed = s.elapsed := by
  unfold workerStep
  split <;> (try split) <;> (try split_ifs) <;> simp
@[simp] theorem workerStep_tblIdx (w : Nat) (s : State) : (workerStep w s).tblIdx = s.tblIdx := by
  unfold workerStep
  split <;> (try split) <;> (try split_ifs) <;> simp
@[simp] theorem workerStep_op (w : Nat) (s : State) : (workerStep w s).op = s.op := by
  unfold workerStep
  split <;> (try split) <;> (try split_ifs) <;> simp
@[simp] theorem workerStep_pos (w : Nat) (s : State) : (workerStep w s).pos = s.pos := by
  unfold workerStep
  split <;> (try split) <;> (try split_ifs) <;> simp
@[simp] theorem workerStep_icnt (w : Nat) (s : State) : (workerStep w s).icnt = s.icnt := by
  unfold workerStep
  split <;> (try split) <;> (try split_ifs) <;> simp
@[simp] theorem workerStep_phase (w : Nat) (s : State) : (workerStep w s).phase = s.phase := by
  unfold workerStep
  split <;> (try split) <;> (try split_ifs) <;> simp
@[simp] theorem workerStep_script (w : Nat) (s : State) : (workerStep w s).script = s.script := by
  unfold workerStep
  split <;> (try split) <;> (try split_ifs) <;> simp
@[simp] theorem workerStep_returned (w : Nat) (s : State) : (workerStep w s).returned = s.returned := by
  unfold workerStep
  split <;> (try split) <;> (try split_ifs) <;> simp
@[simp] theorem workerStep_turns (w : Nat) (s : State) : (workerStep w s).turns = s.turns := by
  unfold workerStep
  split <;> (try split) <;> (try split_ifs) <;> simp
@[simp] theorem workerStep_draws (w : Nat) (s : State) : (workerStep w s).draws = s.draws := by
  unfold workerStep
  split <;> (try split) <;> (try split_ifs) <;> simp
@[simp] theorem workerStep_sequence (w : Nat) (s : State) : (workerStep w s).sequence = s.sequence := by
  unfold workerStep
  split <;> (try split) <;> (try split_ifs) <;> simp
@[simp] theorem workerStep_numWorkers (w : Nat) (s : State) : (workerStep w s).numWorkers = s.numWorkers := by
  unfold workerStep
  split <;> (try split) <;> (try split_ifs) <;> simp

@[simp] theorem engStep_sequence (s : State) : (engStep s).sequence = s.sequence := by
  simp only [State.sequence, engStep_bits, engStep_len]

/-- The pool keeps its size, also at the dispatch. -/
@[simp] theorem engStep_numWorkers (s : State) : (engStep s).numWorkers = s.numWorkers := by
  unfold engStep crcRefStep crcFastStep tblBuildStep runBatchStep fastBody countComputation
  simp only [State.numWorkers]
  grind [dispatchWorkers, beginLoop, beginComputation, bitMicro, byteMicro, complete, drawElapsed,
    storeResult]

/-- The steps the body of `CRC_FAST` can be. -/
theorem fastBody_cases (after : State → State) (s : State) :
    (s.pos.toNat + 8 ≤ s.len.toNat ∧ fastBody after s = byteMicro s) ∨
    (s.len.toNat < s.pos.toNat + 8 ∧ s.pos.toNat < s.len.toNat ∧ fastBody after s = bitMicro s) ∨
    (s.len.toNat ≤ s.pos.toNat ∧ fastBody after s = after s) := by
  unfold fastBody
  split_ifs with h1 h2
  · exact .inl ⟨h1, rfl⟩
  · exact .inr (.inl ⟨by omega, h2, rfl⟩)
  · exact .inr (.inr ⟨by omega, rfl⟩)

/-- The steps a worker's turn can be. -/
theorem workerStep_cases (w : Nat) (s : State) :
    workerStep w s = s ∨
    ∃ k, workersRun s = true ∧ s.workers[w]? = some k ∧ k.fin = false ∧
      ((k.count.toNat < k.quota.toNat ∧ workerStep w s = iterationStep w k s) ∨
       (k.count = k.quota ∧ workerStep w s = finalStep w k s)) := by
  unfold workerStep
  split
  · rename_i hr
    split
    · exact .inl rfl
    · rename_i k hk
      split_ifs with hf hc he
      · exact .inl rfl
      · exact .inr ⟨k, hr, hk, by simpa using hf, .inl ⟨hc, rfl⟩⟩
      · exact .inr ⟨k, hr, hk, by simpa using hf, .inr ⟨he, rfl⟩⟩
      · exact .inl rfl
  · exact .inl rfl

theorem workersRun_iff (s : State) :
    workersRun s = true ↔ s.busy = true ∧ s.op = 3#4 ∧ s.phase = .join := by
  have : commandOf s.op = some .runBatch ↔ s.op = 3#4 := commandOf_eq_some _ _
  simp [workersRun, this, and_assoc]

theorem allFinished_iff (s : State) : allFinished s = true ↔ ∀ k ∈ s.workers, k.fin = true := by
  simp [allFinished]

theorem batchPath_parallel (n : Nat) : batchPath n = .parallel ↔ Config.parThreshold ≤ n := by
  unfold batchPath Config.parThreshold
  split_ifs <;> simp <;> omega

end Sys2Proof.Machine
end

