-- ==== Sys2Proof/Laws/PerInstr.lean ====
section
/-! SUPPORT. A well-formed instruction is encoded into a word of its own row of the opcode table
(30_encoding.md R66): the statement, and its lemma for each constructor. -/

namespace Sys2Proof

/-- Two joined words are equal when their parts are. -/
theorem append_eq {m n : Nat} (a c : BitVec m) (b d : BitVec n) :
    a ++ b = c ++ d ↔ a = c ∧ b = d := by
  constructor
  · intro h
    have hl := congrArg (BitVec.extractLsb' n m) h
    have hr := congrArg (BitVec.extractLsb' 0 n) h
    simp only [BitVec.extractLsb'_append_eq_left, BitVec.extractLsb'_append_eq_right] at hl hr
    exact ⟨hl, hr⟩
  · rintro ⟨rfl, rfl⟩; rfl

/-- Whether a word lies in a row is decided field by field. -/
theorem Row.covers_mk (name : String) (pd dm : BitVec 1) (po om : Offset) (pv vm : Word)
    (d : Dir) (o : Offset) (v : Word) :
    Row.covers ⟨name, pd ++ po ++ pv, dm ++ om ++ vm⟩ (Txn.mk d o v) =
      (d.bit &&& dm == pd && o &&& om == po && v &&& vm == pv) := by
  have h1 : Txn.mk d o v &&& (dm ++ om ++ vm : BitVec 41) =
      (((d.bit ++ o : BitVec 9) &&& (dm ++ om : BitVec 9)) ++ (v &&& vm) : BitVec 41) := 
   BitVec.and_append
  have h2 : (d.bit ++ o : BitVec 9) &&& (dm ++ om : BitVec 9) = ((d.bit &&& dm) ++ (o &&& om) : BitVec 9) :=
    BitVec.and_append
  rw [Bool.eq_iff_iff]
  simp only [Row.covers, h1, h2, beq_iff_eq, Bool.and_eq_true]
  exact (append_eq _ _ _ _).trans (and_congr_left' (append_eq _ _ _ _))

theorem covers_register (name : String) (d : Dir) (o : Offset) (v : Word) :
    Row.covers ⟨name, d.bit ++ o ++ 0#32, 1#1 ++ 0xFF#8 ++ 0#32⟩ (Txn.mk d o v) = true := by
  have ho : o &&& 0xFF#8 = o := BitVec.and_allOnes
  have hd : d.bit &&& 1#1 = d.bit := BitVec.and_allOnes
  rw [Row.covers_mk, ho, hd]
  simp

theorem covers_command (name : String) (ig : BitVec 28) (c : BitVec 4) :
    Row.covers ⟨name, 1#1 ++ 0#8 ++ (0#28 ++ c : BitVec 32), 1#1 ++ 0xFF#8 ++ 0xF#32⟩
      (Txn.mk .write Reg.ctrl.offset (ctrlData ig c)) = true := by
  have hv : ctrlData ig c &&& 0xF#32 = (0#28 ++ c : BitVec 32) := by
    have h : (ig ++ c : BitVec 32) &&& (0#28 ++ 0xF#4) = (ig &&& 0#28) ++ (c &&& 0xF#4) :=
      BitVec.and_append
    have hc : c &&& 0xF#4 = c := BitVec.and_allOnes
    rw [hc, BitVec.and_zero] at h
    exact h
  rw [Row.covers_mk, hv]
  simp [Dir.bit, Reg.offset]

section
set_option maxRecDepth 100000

theorem class38_masked : ∀ o : Offset, Offset.inClass38 o = true → o &&& 0xFB#8 = 0x38#8 := by
  decide

theorem class40_masked : ∀ o : Offset, Offset.inClass40 o = true → o &&& 0xC3#8 = 0x40#8 := by
  decide

theorem class80_masked : ∀ o : Offset, Offset.inClass80 o = true → o &&& 0x83#8 = 0x80#8 := by
  decide

theorem classOdd_masked : ∀ o : Offset, Offset.inClassOdd o = true → o &&& 0x01#8 = 0x01#8 := by
  decide

theorem classHalf_masked : ∀ o : Offset, Offset.inClassHalf o = true → o &&& 0x03#8 = 0x02#8 := by
  decide

end

theorem covers_reserved (name : String) (d : Dir) (o om po : Offset) (v : Word)
    (h : o &&& om = po) :
    Row.covers ⟨name, d.bit ++ po ++ 0#32, 1#1 ++ om ++ 0#32⟩ (Txn.mk d o v) = true := by
  have hd : d.bit &&& 1#1 = d.bit := BitVec.and_allOnes
  rw [Row.covers_mk, h, hd]
  simp

theorem covers_misaligned (name : String) (d : Dir) (o om po : Offset) (v : Word)
    (h : o &&& om = po) :
    Row.covers ⟨name, 0#1 ++ po ++ 0#32, 0#1 ++ om ++ 0#32⟩ (Txn.mk d o v) = true := by
  rw [Row.covers_mk, h]
  simp

namespace Laws.EncodesIntoRow

/-- The word a well-formed instruction is encoded as lies in that instruction's row of the opcode
table. -/
def Statement (i : Instr) : Prop :=
  WellFormed i → i.row ∈ opcodeRows ∧ i.row.covers (encode i) = true

theorem row_listed (i : Instr) : i.row ∈ opcodeRows := by
  cases i <;> dsimp only [Instr.row] <;> decide

theorem reservedOp0 (ignored : BitVec 28) : Statement (.reservedOp0 ignored) :=
  fun _ => ⟨row_listed _, covers_command ..⟩

theorem crcRef (ignored : BitVec 28) : Statement (.crcRef ignored) :=
  fun _ => ⟨row_listed _, covers_command ..⟩

theorem crcFast (ignored : BitVec 28) : Statement (.crcFast ignored) :=
  fun _ => ⟨row_listed _, covers_command ..⟩

theorem runBatch (ignored : BitVec 28) : Statement (.runBatch ignored) :=
  fun _ => ⟨row_listed _, covers_command ..⟩

theorem tblBuild (ignored : BitVec 28) : Statement (.tblBuild ignored) :=
  fun _ => ⟨row_listed _, covers_command ..⟩

theorem reservedOp5 (ignored : BitVec 28) : Statement (.reservedOp5 ignored) :=
  fun _ => ⟨row_listed _, covers_command ..⟩

theorem reservedOp6 (ignored : BitVec 28) : Statement (.reservedOp6 ignored) :=
  fun _ => ⟨row_listed _, covers_command ..⟩

theorem reservedOp7 (ignored : BitVec 28) : Statement (.reservedOp7 ignored) :=
  fun _ => ⟨row_listed _, covers_command ..⟩

theorem reservedOp8 (ignored : BitVec 28) : Statement (.reservedOp8 ignored) :=
  fun _ => ⟨row_listed _, covers_command ..⟩

theorem reservedOp9 (ignored : BitVec 28) : Statement (.reservedOp9 ignored) :=
  fun _ => ⟨row_listed _, covers_command ..⟩

theorem reservedOpA (ignored : BitVec 28) : Statement (.reservedOpA ignored) :=
  fun _ => ⟨row_listed _, covers_command ..⟩

theorem reservedOpB (ignored : BitVec 28) : Statement (.reservedOpB ignored) :=
  fun _ => ⟨row_listed _, covers_command ..⟩

theorem reservedOpC (ignored : BitVec 28) : Statement (.reservedOpC ignored) :=
  fun _ => ⟨row_listed _, covers_command ..⟩

theorem reservedOpD (ignored : BitVec 28) : Statement (.reservedOpD ignored) :=
  fun _ => ⟨row_listed _, covers_command ..⟩

theorem reservedOpE (ignored : BitVec 28) : Statement (.reservedOpE ignored) :=
  fun _ => ⟨row_listed _, covers_command ..⟩

theorem reservedOpF (ignored : BitVec 28) : Statement (.reservedOpF ignored) :=
  fun _ => ⟨row_listed _, covers_command ..⟩

theorem wrLen (v : Word) : Statement (.wrLen v) :=
  fun _ => ⟨row_listed _, covers_register _ .write ..⟩

theorem wrIterLo (v : Word) : Statement (.wrIterLo v) :=
  fun _ => ⟨row_listed _, covers_register _ .write ..⟩

theorem wrIterHi (v : Word) : Statement (.wrIterHi v) :=
  fun _ => ⟨row_listed _, covers_register _ .write ..⟩

theorem wrData0 (v : Word) : Statement (.wrData0 v) :=
  fun _ => ⟨row_listed _, covers_register _ .write ..⟩

theorem wrData1 (v : Word) : Statement (.wrData1 v) :=
  fun _ => ⟨row_listed _, covers_register _ .write ..⟩

theorem wrData2 (v : Word) : Statement (.wrData2 v) :=
  fun _ => ⟨row_listed _, covers_register _ .write ..⟩

theorem wrTblIdx (v : Word) : Statement (.wrTblIdx v) :=
  fun _ => ⟨row_listed _, covers_register _ .write ..⟩

theorem wrStatus (v : Word) : Statement (.wrStatus v) :=
  fun _ => ⟨row_listed _, covers_register _ .write ..⟩

theorem wrCrc (v : Word) : Statement (.wrCrc v) :=
  fun _ => ⟨row_listed _, covers_register _ .write ..⟩

theorem wrElapsedLo (v : Word) : Statement (.wrElapsedLo v) :=
  fun _ => ⟨row_listed _, covers_register _ .write ..⟩

theorem wrElapsedHi (v : Word) : Statement (.wrElapsedHi v) :=
  fun _ => ⟨row_listed _, covers_register _ .write ..⟩

theorem wrNWorkers (v : Word) : Statement (.wrNWorkers v) :=
  fun _ => ⟨row_listed _, covers_register _ .write ..⟩

theorem wrTblData (v : Word) : Statement (.wrTblData v) :=
  fun _ => ⟨row_listed _, covers_register _ .write ..⟩

theorem rdCtrl : Statement (.rdCtrl) :=
  fun _ => ⟨row_listed _, covers_register _ .read ..⟩

theorem rdStatus : Statement (.rdStatus) :=
  fun _ => ⟨row_listed _, covers_register _ .read ..⟩

theorem rdLen : Statement (.rdLen) :=
  fun _ => ⟨row_listed _, covers_register _ .read ..⟩

theorem rdIterLo : Statement (.rdIterLo) :=
  fun _ => ⟨row_listed _, covers_register _ .read ..⟩

theorem rdIterHi : Statement (.rdIterHi) :=
  fun _ => ⟨row_listed _, covers_register _ .read ..⟩

theorem rdData0 : Statement (.rdData0) :=
  fun _ => ⟨row_listed _, covers_register _ .read ..⟩

theorem rdData1 : Statement (.rdData1) :=
  fun _ => ⟨row_listed _, covers_register _ .read ..⟩

theorem rdData2 : Statement (.rdData2) :=
  fun _ => ⟨row_listed _, covers_register _ .read ..⟩

theorem rdCrc : Statement (.rdCrc) :=
  fun _ => ⟨row_listed _, covers_register _ .read ..⟩

theorem rdElapsedLo : Statement (.rdElapsedLo) :=
  fun _ => ⟨row_listed _, covers_register _ .read ..⟩

theorem rdElapsedHi : Statement (.rdElapsedHi) :=
  fun _ => ⟨row_listed _, covers_register _ .read ..⟩

theorem rdNWorkers : Statement (.rdNWorkers) :=
  fun _ => ⟨row_listed _, covers_register _ .read ..⟩

theorem rdTblIdx : Statement (.rdTblIdx) :=
  fun _ => ⟨row_listed _, covers_register _ .read ..⟩

theorem rdTblData : Statement (.rdTblData) :=
  fun _ => ⟨row_listed _, covers_register _ .read ..⟩

theorem rdReserved38 (off : Offset) : Statement (.rdReserved38 off) :=
  fun h => ⟨row_listed _, covers_reserved _ .read _ _ _ _ (class38_masked _ h)⟩

theorem rdReserved40 (off : Offset) : Statement (.rdReserved40 off) :=
  fun h => ⟨row_listed _, covers_reserved _ .read _ _ _ _ (class40_masked _ h)⟩

theorem rdReserved80 (off : Offset) : Statement (.rdReserved80 off) :=
  fun h => ⟨row_listed _, covers_reserved _ .read _ _ _ _ (class80_masked _ h)⟩

theorem wrReserved38 (off : Offset) (v : Word) : Statement (.wrReserved38 off v) :=
  fun h => ⟨row_listed _, covers_reserved _ .write _ _ _ _ (class38_masked _ h)⟩

theorem wrReserved40 (off : Offset) (v : Word) : Statement (.wrReserved40 off v) :=
  fun h => ⟨row_listed _, covers_reserved _ .write _ _ _ _ (class40_masked _ h)⟩

theorem wrReserved80 (off : Offset) (v : Word) : Statement (.wrReserved80 off v) :=
  fun h => ⟨row_listed _, covers_reserved _ .write _ _ _ _ (class80_masked _ h)⟩

theorem misalignedOdd (dir : Dir) (off : Offset) (data : Word) : Statement (.misalignedOdd dir off data) :=
  fun h => ⟨row_listed _, covers_misaligned _ _ _ _ _ _
    (classOdd_masked _ ((Bool.and_eq_true _ _).mp h).1)⟩

theorem misalignedHalf (dir : Dir) (off : Offset) (data : Word) : Statement (.misalignedHalf dir off data) :=
  fun h => ⟨row_listed _, covers_misaligned _ _ _ _ _ _
    (classHalf_masked _ ((Bool.and_eq_true _ _).mp h).1)⟩

end Laws.EncodesIntoRow

end Sys2Proof
end

