-- ==== Sys2Proof/Laws/Safety.lean ====
section
/-! SUPPORT. When an agent has a step enabled. -/

namespace Sys2Proof.Machine

@[simp] theorem canStep_host (s : State) : ¬ CanStep .host s := fun h => h rfl

@[simp] theorem canStep_reset (s : State) : ¬ CanStep .reset s := fun h => h rfl

theorem canStep_eng (s : State) : CanStep .eng s ↔ engStep s ≠ s := Iff.rfl

theorem canStep_wrk (w : Nat) (s : State) : CanStep (.wrk w) s ↔ workerStep w s ≠ s := Iff.rfl

/-- A worker that can step has one of the two steps of the rules, on a batch in its join. -/
theorem canStep_wrk_cases (w : Nat) (s : State) (h : CanStep (.wrk w) s) :
    ∃ k, workersRun s = true ∧ s.workers[w]? = some k ∧ k.fin = false ∧
      ((k.count.toNat < k.quota.toNat ∧ workerStep w s = iterationStep w k s) ∨
       (k.count = k.quota ∧ workerStep w s = finalStep w k s)) :=
  (workerStep_cases w s).resolve_left h

end Sys2Proof.Machine
end

