-- ==== Sys2Proof/Laws/Script.lean ====
section
/-! SUPPORT. What is left of a program after a poll, and what the host takes from a call. -/

namespace Sys2Proof.Machine

theorem afterPoll_busy (s : State) (n : Nat) (rest : List HostLine) (h : s.busy = true) :
    afterPoll s n rest = .poll n :: rest := by
  simp [afterPoll, h]

theorem afterPoll_done (s : State) (n : Nat) (rest : List HostLine) (hb : s.busy = false)
    (hd : s.done = true) : afterPoll s n rest = rest := by
  simp [afterPoll, hb, hd]

theorem afterPoll_not_done (s : State) (n : Nat) (rest : List HostLine) (hb : s.busy = false)
    (hd : s.done = false) : afterPoll s n rest = rest.drop n := by
  simp [afterPoll, hb, hd]

/-- A poll that finds the block done goes on to its reads, and one that finds it refused to the line after
them. -/
theorem afterPoll_collectLines (s : State) (reads rest : List HostLine) (hb : s.busy = false) :
    afterPoll s reads.length (reads ++ rest) = if s.done then reads ++ rest else rest := by
  cases hd : s.done <;> simp [afterPoll, hb, hd]

theorem callOutcome_poll (v : Word) (vs : List Word) (h : v.getLsbD 0 = true) :
    callOutcome (v :: vs) = callOutcome vs := by
  unfold callOutcome
  simp only [List.dropWhile_cons, h, if_true]

theorem callOutcome_done (v : Word) (vs : List Word) (hb : v.getLsbD 0 = false)
    (hd : v.getLsbD 1 = true) : callOutcome (v :: vs) = .result vs := by
  unfold callOutcome
  simp only [List.dropWhile_cons, hb, hd, Bool.false_eq_true, if_false, if_true]

theorem callOutcome_err (v : Word) (vs : List Word) (hb : v.getLsbD 0 = false)
    (hd : v.getLsbD 1 = false) (he : v.getLsbD 2 = true) :
    callOutcome (v :: vs) = .error (v.extractLsb' 4 3) := by
  unfold callOutcome
  simp only [List.dropWhile_cons, hb, hd, he, Bool.false_eq_true, if_false, if_true]

end Sys2Proof.Machine
end

