-- ==== Sys2Proof/Laws/Step.lean ====
section
/-! SUPPORT. Everything one step can be: one inversion lemma for the whole machine. -/

namespace Sys2Proof.Machine

/-- What a step that answers a next state can have been. -/
inductive StepEffect (s : State) : State → Prop where
  /-- The host had no line left. -/
  | idle (turn : nextTurn s = .host) : StepEffect s (takeTurn s)
  /-- The host carried out a transaction. -/
  | transfer (x : Txn) (rest : List HostLine) (t : State) (turn : nextTurn s = .host)
      (line : s.script = .xfer x :: rest)
      (run : exec (decode x) { takeTurn s with script := rest } = .next t) : StepEffect s t
  /-- The host polled. -/
  | poll (ifDone : Nat) (rest : List HostLine) (turn : nextTurn s = .host)
      (line : s.script = .poll ifDone :: rest) :
      StepEffect s (deliver (statusWord s) { takeTurn s with script := afterPoll s ifDone rest })
  /-- ENG stepped. -/
  | engine (turn : nextTurn s = .eng) : StepEffect s (engStep (takeTurn s))
  /-- A worker stepped. -/
  | worker (w : Nat) (turn : nextTurn s = .wrk w) : StepEffect s (workerStep w (takeTurn s))
  /-- Reset. -/
  | reset (turn : nextTurn s = .reset) : StepEffect s (resetEvent (takeTurn s))

theorem statusWord_congr (s t : State) (hb : t.busy = s.busy) (hd : t.done = s.done)
    (he : t.err = s.err) (hc : t.errCode = s.errCode) : statusWord t = statusWord s := by
  simp only [statusWord, hb, hd, he, hc]

/-- If a step answers next, it was one of the six kinds. -/
theorem step_effect (s t : State) (h : step s = .next t) : StepEffect s t := by
  unfold step at h
  split at h
  · rename_i ht
    unfold hostStep at h
    rw [takeTurn_script] at h
    split at h
    · cases h
      exact .idle ht
    · rename_i x rest hl
      exact .transfer x rest t ht hl h
    · rename_i ifDone rest hl
      have hp : afterPoll (takeTurn s) ifDone rest = afterPoll s ifDone rest := by
        simp only [afterPoll, takeTurn_busy, takeTurn_done]
      rw [hp] at h
      have hs : statusWord { takeTurn s with script := afterPoll s ifDone rest } = statusWord s :=
        statusWord_congr _ _ (by simp) (by simp) (by simp) (by simp)
      simp only [exec, execRdStatus, hs] at h
      cases h
      exact .poll ifDone rest ht hl
  · rename_i ht
    cases h
    exact .engine ht
  · rename_i w ht
    cases h
    exact .worker w ht
  · rename_i ht
    cases h
    exact .reset ht

end Sys2Proof.Machine
end

