-- ==== Sys2Proof/Tests/Slice0.lean ====
section
/-! SUPPORT. Tests: ill-formed terms refused, words written out from the spec's formats, the vectors of
95_test_vectors.md, and for each statement with hypotheses a state and operands that meet them. -/

namespace Sys2Proof.Tests
open Sys2Proof.Machine

set_option maxRecDepth 100000

/-- An idle block with the twelve bits of program P2 loaded (95_test_vectors.md section 9) and two
workers. -/
def base : State :=
  { reg := 0#15
    bits := 0xABC000000000000000000000#96
    len := 12#7
    iter := 1#64
    tbl := canonTable
    busy := false
    done := false
    err := false
    errCode := 0#3
    result := 0#16
    elapsed := 0#64
    tblIdx := 0#8
    op := 0#4
    pos := 0#7
    icnt := 0#64
    workers := [Worker.reset, Worker.reset]
    phase := .start
    script := []
    returned := []
    turns := []
    draws := 0 }

/-- The state an outcome holds; the idle block where there is none. -/
def after : Host.Outcome State Fault Refusal → State
  | .next s => s
  | .fault _ => base
  | .refused _ => base

/-- The block in the middle of a command. -/
def inOp (op : BitVec 4) (phase : Phase) : State :=
  { base with busy := true, op := op, phase := phase }

/-- `CRC_REF` with the whole sequence consumed: only the completion is left. -/
def consumed : State :=
  { inOp 1#4 .compute with pos := 12#7, reg := 0x4C48#15, turns := [.eng] }

/-- A worker that has done its share of 50000 computations. -/
def spent (fin : Bool) : Worker :=
  { reg := 0x4C48#15, quota := 50000#64, count := 50000#64, fin := fin }

/-- A worker that has done none of its share. -/
def fresh : Worker :=
  { reg := 0#15, quota := 50000#64, count := 0#64, fin := false }

/-- A dispatched batch of 100000 computations on two workers: worker 0 has done its share, worker 1 has
done none. -/
def pooled : State :=
  { inOp 3#4 .join with
    iter := 100000#64
    workers := [spent false, fresh] }

/-- The same batch with every worker finished. -/
def joined : State :=
  { pooled with
    result := 0x4C48#16
    workers := [spent true, spent true]
    turns := [.eng] }

/-! ## Ill-formed terms -/

theorem test_wellFormed_refuses_reserved_read :
    (Instr.rdReserved38 0x34#8).wellFormed = false ∧ (Instr.rdReserved40 0x3C#8).wellFormed = false ∧
    (Instr.rdReserved40 0x41#8).wellFormed = false ∧ (Instr.rdReserved80 0x7C#8).wellFormed = false := by
  decide

theorem test_wellFormed_refuses_reserved_write :
    (Instr.wrReserved38 0x40#8 1#32).wellFormed = false ∧
    (Instr.wrReserved40 0x80#8 1#32).wellFormed = false ∧
    (Instr.wrReserved80 0x82#8 1#32).wellFormed = false := by
  decide

theorem test_wellFormed_refuses_misaligned :
    (Instr.misalignedOdd .write 0x02#8 0#32).wellFormed = false ∧
    (Instr.misalignedHalf .write 0x04#8 0#32).wellFormed = false ∧
    (Instr.misalignedHalf .write 0x03#8 0#32).wellFormed = false := by
  decide

theorem test_wellFormed_refuses_data_in_a_read :
    (Instr.misalignedOdd .read 0x05#8 1#32).wellFormed = false ∧
    (Instr.misalignedHalf .read 0x02#8 1#32).wellFormed = false := by
  decide

/-! ## Decoding: words written as `rw`, offset, data (30_encoding.md R50; 20_memory.md R38) -/

theorem test_decode_commands :
    decode (1#1 ++ 0x00#8 ++ 0x00000000#32) = .reservedOp0 0#28 ∧
    decode (1#1 ++ 0x00#8 ++ 0x00000001#32) = .crcRef 0#28 ∧
    decode (1#1 ++ 0x00#8 ++ 0x00000002#32) = .crcFast 0#28 ∧
    decode (1#1 ++ 0x00#8 ++ 0x00000003#32) = .runBatch 0#28 ∧
    decode (1#1 ++ 0x00#8 ++ 0x00000004#32) = .tblBuild 0#28 ∧
    decode (1#1 ++ 0x00#8 ++ 0x00000005#32) = .reservedOp5 0#28 ∧
    decode (1#1 ++ 0x00#8 ++ 0x00000006#32) = .reservedOp6 0#28 ∧
    decode (1#1 ++ 0x00#8 ++ 0x00000007#32) = .reservedOp7 0#28 ∧
    decode (1#1 ++ 0x00#8 ++ 0x00000008#32) = .reservedOp8 0#28 ∧
    decode (1#1 ++ 0x00#8 ++ 0x00000009#32) = .reservedOp9 0#28 ∧
    decode (1#1 ++ 0x00#8 ++ 0x0000000A#32) = .reservedOpA 0#28 ∧
    decode (1#1 ++ 0x00#8 ++ 0x0000000B#32) = .reservedOpB 0#28 ∧
    decode (1#1 ++ 0x00#8 ++ 0x0000000C#32) = .reservedOpC 0#28 ∧
    decode (1#1 ++ 0x00#8 ++ 0x0000000D#32) = .reservedOpD 0#28 ∧
    decode (1#1 ++ 0x00#8 ++ 0x0000000E#32) = .reservedOpE 0#28 ∧
    decode (1#1 ++ 0x00#8 ++ 0x1234567F#32) = .reservedOpF 0x1234567#28 := by
  decide

theorem test_decode_writes :
    decode (1#1 ++ 0x04#8 ++ 0x12345678#32) = .wrStatus 0x12345678#32 ∧
    decode (1#1 ++ 0x08#8 ++ 0x12345678#32) = .wrLen 0x12345678#32 ∧
    decode (1#1 ++ 0x0C#8 ++ 0x12345678#32) = .wrIterLo 0x12345678#32 ∧
    decode (1#1 ++ 0x10#8 ++ 0x12345678#32) = .wrIterHi 0x12345678#32 ∧
    decode (1#1 ++ 0x14#8 ++ 0x12345678#32) = .wrData0 0x12345678#32 ∧
    decode (1#1 ++ 0x18#8 ++ 0x12345678#32) = .wrData1 0x12345678#32 ∧
    decode (1#1 ++ 0x1C#8 ++ 0x12345678#32) = .wrData2 0x12345678#32 ∧
    decode (1#1 ++ 0x20#8 ++ 0x12345678#32) = .wrCrc 0x12345678#32 ∧
    decode (1#1 ++ 0x24#8 ++ 0x12345678#32) = .wrElapsedLo 0x12345678#32 ∧
    decode (1#1 ++ 0x28#8 ++ 0x12345678#32) = .wrElapsedHi 0x12345678#32 ∧
    decode (1#1 ++ 0x2C#8 ++ 0x12345678#32) = .wrNWorkers 0x12345678#32 ∧
    decode (1#1 ++ 0x30#8 ++ 0x12345678#32) = .wrTblIdx 0x12345678#32 ∧
    decode (1#1 ++ 0x34#8 ++ 0x12345678#32) = .wrTblData 0x12345678#32 := by
  decide

theorem test_decode_reads :
    decode (0#1 ++ 0x00#8 ++ 0x00000000#32) = .rdCtrl ∧
    decode (0#1 ++ 0x04#8 ++ 0x00000000#32) = .rdStatus ∧
    decode (0#1 ++ 0x08#8 ++ 0x00000000#32) = .rdLen ∧
    decode (0#1 ++ 0x0C#8 ++ 0x00000000#32) = .rdIterLo ∧
    decode (0#1 ++ 0x10#8 ++ 0x00000000#32) = .rdIterHi ∧
    decode (0#1 ++ 0x14#8 ++ 0x00000000#32) = .rdData0 ∧
    decode (0#1 ++ 0x18#8 ++ 0x00000000#32) = .rdData1 ∧
    decode (0#1 ++ 0x1C#8 ++ 0x00000000#32) = .rdData2 ∧
    decode (0#1 ++ 0x20#8 ++ 0x00000000#32) = .rdCrc ∧
    decode (0#1 ++ 0x24#8 ++ 0x00000000#32) = .rdElapsedLo ∧
    decode (0#1 ++ 0x28#8 ++ 0x00000000#32) = .rdElapsedHi ∧
    decode (0#1 ++ 0x2C#8 ++ 0x00000000#32) = .rdNWorkers ∧
    decode (0#1 ++ 0x30#8 ++ 0x00000000#32) = .rdTblIdx ∧
    decode (0#1 ++ 0x34#8 ++ 0x00000000#32) = .rdTblData := by
  decide

theorem test_decode_reserved_offsets :
    decode (0#1 ++ 0x38#8 ++ 0x00000000#32) = .rdReserved38 0x38#8 ∧
    decode (0#1 ++ 0x7C#8 ++ 0x00000000#32) = .rdReserved40 0x7C#8 ∧
    decode (0#1 ++ 0xFC#8 ++ 0x00000000#32) = .rdReserved80 0xFC#8 ∧
    decode (1#1 ++ 0x3C#8 ++ 0x00000007#32) = .wrReserved38 0x3C#8 7#32 ∧
    decode (1#1 ++ 0x40#8 ++ 0xFFFFFFFF#32) = .wrReserved40 0x40#8 0xFFFFFFFF#32 ∧
    decode (1#1 ++ 0x80#8 ++ 0x00000001#32) = .wrReserved80 0x80#8 1#32 := by
  decide

/-- Offsets 0x02, 0x05 and 0x0B (95_test_vectors.md section 8). -/
theorem test_decode_misaligned_offsets :
    decode (0#1 ++ 0x02#8 ++ 0x00000000#32) = .misalignedHalf .read 0x02#8 0#32 ∧
    decode (1#1 ++ 0x05#8 ++ 0x00000001#32) = .misalignedOdd .write 0x05#8 1#32 ∧
    decode (0#1 ++ 0x0B#8 ++ 0x00000009#32) = .misalignedOdd .read 0x0B#8 0#32 := by
  decide

/-- Row `WR_LEN` and row `RD_CRC` of the opcode table, and a number with a bit above bit 40. -/
theorem test_decodeTableWord :
    decodeTableWord 41 0x10800000048 = some (.wrLen 0x48#32) ∧
    decodeTableWord 41 0x02000000000 = some .rdCrc ∧
    decodeTableWord 48 0x20000000000 = none := by
  decide

/-- The word stored for the next fetch is the next instruction run, from reset. -/
theorem test_withFetchWord_from_reset :
    (after (step (State.reset.withFetchWord 41 0x10800000048))).len = 0x48#7 ∧
    (after (step (State.reset.withFetchWord 41 0x10000000005))).errCode = 7#3 :=
  ⟨rfl, rfl⟩

/-! ## The register space (95_test_vectors.md section 8) -/

theorem test_wrLen_keeps_seven_bits :
    (after (exec (.wrLen 0xFFFFFFFF#32) base)).len = 0x7F#7 := by
  decide

theorem test_wrIterLo : (after (exec (.wrIterLo 0x000186A0#32) base)).iter = 100000#64 := by
  decide

theorem test_wrIterHi : (after (exec (.wrIterHi 1#32) base)).iter = 0x100000001#64 := by
  decide

theorem test_wrData0 :
    (after (exec (.wrData0 0x31323334#32) base)).bits = 0x313233340000000000000000#96 := by
  decide

theorem test_wrData1 :
    (after (exec (.wrData1 0xDEADBEEF#32) base)).bits = 0xABC00000DEADBEEF00000000#96 := by
  decide

theorem test_wrData2 :
    (after (exec (.wrData2 0x39000000#32) base)).bits = 0xABC000000000000039000000#96 := by
  decide

theorem test_wrTblIdx : (after (exec (.wrTblIdx 0x1FF#32) (inOp 3#4 .join))).tblIdx = 0xFF#8 := by
  decide

theorem test_rdTblData :
    (after (exec .rdTblData { base with tblIdx := 0xFF#8 })).returned = [0x95#32] ∧
    (after (exec .rdTblData { base with tblIdx := 0x80#8 })).returned = [0x2213#32] := by
  decide

theorem test_rdStatus :
    (after (exec .rdStatus { base with err := true, errCode := 5#3 })).returned = [0x54#32] ∧
    (after (exec .rdStatus { base with done := true })).returned = [0x02#32] := by
  decide

theorem test_rdData1 :
    (after (exec .rdData1 { base with bits := 0x313233343536373839000000#96 })).returned =
      [0x35363738#32] := by
  decide

theorem test_rdIterHi : (after (exec .rdIterHi { base with iter := 0x1FFFFFFFF#64 })).returned =
    [1#32] := by
  decide

theorem test_rdNWorkers : (after (exec .rdNWorkers base)).returned = [2#32] := by
  decide

theorem test_rdCrc_idle : (after (exec .rdCrc { base with result := 0x059E#16 })).returned =
    [0x059E#32] := by
  decide

/-- While busy the value is a draw: only what the rule fixes is checked (44_host_interface.md R156). -/
theorem test_rdCrc_busy_changes_nothing :
    (after (exec .rdCrc (inOp 3#4 .join))).result = 0#16 ∧
    (after (exec .rdCrc (inOp 3#4 .join))).busy = true := by
  decide

/-! ## The boundary (95_test_vectors.md section 8) -/

theorem test_crcFast_empty : (after (exec (.crcFast 0#28) { base with len := 0#7 })).errCode = 1#3 := by
  decide

theorem test_crcRef_too_long :
    statusWord (after (exec (.crcRef 0#28) { base with len := 97#7 })) = 0x44#32 := by
  decide

theorem test_runBatch_checks_in_order :
    statusWord (after (exec (.runBatch 0#28) { base with len := 97#7, iter := 0#64 })) = 0x44#32 ∧
    statusWord (after (exec (.runBatch 0#28) { base with iter := 1000000001#64 })) = 0x54#32 ∧
    statusWord (after (exec (.runBatch 0#28) { base with iter := 0x100000001#64 })) = 0x54#32 ∧
    statusWord (after (exec (.runBatch 0#28) { base with iter := 1000000000#64 })) = 0x01#32 := by
  decide

theorem test_tblBuild_reads_no_input :
    statusWord (after (exec (.tblBuild 0#28) { base with len := 0#7 })) = 0x01#32 := by
  decide

theorem test_reservedOp5_forgets_done :
    statusWord (after (exec (.reservedOp5 0#28) { base with done := true })) = 0x74#32 := by
  decide

/-! ## Micro-operations and the engine (95_test_vectors.md sections 2 to 6, 9) -/

/-- Section 3, the rows that tell the readings apart. -/
theorem test_bitStep_vectors :
    bitStep 0x4000#15 false = 0x4599#15 ∧ bitStep 0x7FFF#15 true = 0x7FFE#15 ∧
    bitStep 0x7FFF#15 false = 0x3A67#15 ∧ bitStep 0x4599#15 false = 0x4EAB#15 ∧
    bitStep 0x2000#15 true = 0x0599#15 ∧ bitStep 0x2CCC#15 true = 0x1C01#15 := by
  decide

/-- Section 5. -/
theorem test_byteStep_vectors :
    byteStep canonTable 0x4599#15 0x31#8 = 0x7706#15 ∧
    byteStep canonTable 0x1234#15 0xAB#8 = 0x31E9#15 ∧
    byteStep canonTable 0x7FFF#15 0xFF#8 = 0x7F00#15 ∧
    byteStep canonTable 0x3320#15 0x32#8 = 0x269D#15 := by
  decide

/-- Vector X1, both paths. -/
theorem test_external_check_value :
    crcRef (({ base with bits := 0x313233343536373839000000#96, len := 72#7 } : State).sequence) =
      0x059E#15 ∧
    crcFast canonTable
      (({ base with bits := 0x313233343536373839000000#96, len := 72#7 } : State).sequence) =
      0x059E#15 := by
  decide

/-- Program P2: the byte step, then the first bit step. -/
theorem test_crcFast_steps :
    (engStep (inOp 2#4 .compute)).reg = 0x0608#15 ∧ (engStep (inOp 2#4 .compute)).pos = 8#7 ∧
    (engStep { inOp 2#4 .compute with reg := 0x0608#15, pos := 8#7 }).reg = 0x4989#15 := by
  decide

/-- Program P1's first step and its completion. -/
theorem test_crcRef_steps :
    (engStep { inOp 1#4 .start with reg := 0x7FFF#15, pos := 5#7 }).reg = 0#15 ∧
    statusWord (engStep consumed) = 0x02#32 ∧ (engStep consumed).result = 0x4C48#16 := by
  decide

theorem test_runBatch_counts_and_completes :
    (engStep { inOp 3#4 .compute with pos := 12#7, icnt := 0#64 }).icnt = 1#64 ∧
    (engStep { inOp 3#4 .compute with pos := 12#7, icnt := 0#64 }).phase = .finish ∧
    statusWord (engStep { inOp 3#4 .finish with reg := 0x4C48#15 }) = 0x02#32 := by
  decide

/-- Program P3's dispatch on two workers. -/
theorem test_runBatch_dispatch :
    (engStep { inOp 3#4 .start with iter := 100001#64 }).workers.map (fun k => k.quota.toNat) =
      [50001, 50000] := by
  decide

theorem test_runBatch_join : engStep pooled = pooled ∧ statusWord (engStep joined) = 0x02#32 :=
  ⟨rfl, by decide⟩

theorem test_worker_iteration :
    (workerStep 1 pooled).workers.map (fun k => (k.reg, k.count)) =
      [(0x4C48#15, 50000#64), (0x4C48#15, 1#64)] ∧ (workerStep 1 pooled).result = 0#16 := by
  decide

theorem test_worker_final :
    (workerStep 0 pooled).workers.map (fun k => k.fin) = [true, false] ∧
    (workerStep 0 pooled).result = 0x4C48#16 := by
  decide

/-- Program P5: the table is stored, then the build completes. -/
theorem test_tblBuild_steps :
    tableAt (engStep { inOp 4#4 .start with tbl := Vector.replicate 256 0#15 }).tbl 0xA5#8 =
      0x646B#15 ∧
    statusWord (engStep (inOp 4#4 .finish)) = 0x02#32 := by
  decide

/-- Quotas of section 8. -/
theorem test_quota_vectors :
    (List.range 3).map (quota 100000 3) = [33334, 33333, 33333] ∧
    (List.range 7).map (quota 1000000000 7) =
      [142857143, 142857143, 142857143, 142857143, 142857143, 142857143, 142857142] ∧
    quota 100000 65535 34464 = 2 ∧ quota 100000 65535 34465 = 1 := by
  decide

theorem test_batchPath_boundaries :
    batchPath 1 = .single ∧ batchPath 2 = .sequential ∧ batchPath 99999 = .sequential ∧
    batchPath 100000 = .parallel := by
  decide

/-- Reset during an operation (70_reset_and_hazards.md R191). -/
theorem test_reset_during_operation :
    (after (step { joined with turns := [.reset] })).busy = false ∧
    (after (step { joined with turns := [.reset] })).workers = [Worker.reset, Worker.reset] := by
  decide

/-- `POLL` repeats while `BUSY == 1`, and ends once it has read 0 (30_encoding.md R65). -/
theorem test_poll :
    (after (step { inOp 1#4 .start with script := [.poll 0], turns := [.host] })).script = [.poll 0] ∧
    (after (step { base with script := [.poll 0], turns := [.host] })).script = [] := by
  decide

/-- After `POLL` the lines of a result are carried out if `DONE == 1`, and passed over if `ERR == 1`
(44_host_interface.md R163). -/
theorem test_poll_collects_only_a_result :
    (after (step { base with
      done := true, script := .poll 1 :: rdLine .crc :: pollLines, turns := [.host] })).script =
        rdLine .crc :: pollLines ∧
    (after (step { base with
      err := true, script := .poll 1 :: rdLine .crc :: pollLines, turns := [.host] })).script =
        pollLines := by
  decide

/-- R163: two polls while busy, then a result of `run_batch`; a refusal of it with code 5. -/
theorem test_callOutcome :
    callOutcome [0x01#32, 0x01#32, 0x02#32, 0x059E#32, 7#32, 1#32] =
      .result [0x059E#32, 7#32, 1#32] ∧
    batchResult [0x059E#32, 7#32, 1#32] = some { crc := 0x059E#32, elapsed := 0x100000007#64 } ∧
    callOutcome [0x54#32] = .error 5#3 ∧ callOutcome [0x01#32] = .noOutcome := by
  decide

/-- R163: `build_table()` has one start, one poll and 256 pairs; the first and the last pair. -/
theorem test_buildTableLines :
    buildTableLines.length = 514 ∧
    buildTableLines.take 4 =
      [.xfer 0x10000000004#41, .poll 0, .xfer 0x13000000000#41, .xfer 0x03400000000#41] ∧
    buildTableLines.drop 512 = [.xfer 0x130000000FF#41, .xfer 0x03400000000#41] := by
  decide

/-! ## The codec (95_test_vectors.md section 7) -/

theorem test_parseBin_vectors :
    parseBin [' ', '1', '0', ' ', '1', '\n'] = .ok [true, false, true] ∧
    parseBin [' ', '\t', '\r', '\n'] = .error .emptyInput ∧
    parseBin ['1', '2', 'X', '3', '4'] = .error (.invalidCharacter ['2', 'X', '3', '4']) ∧
    parseBin ['1', 'a', '2', 'b', '3', 'c', '4', 'd'] =
      .error (.invalidCharacter ['a', '2', 'b', '3', 'c']) ∧
    parseBin ['1', Char.ofNat 0xA0, '0'] = .error (.invalidCharacter [Char.ofNat 0xA0]) :=
  ⟨rfl, rfl, rfl, rfl, rfl⟩

theorem test_parseBin_lengths :
    parseBin (List.replicate 97 '1') = .error (.tooLong 97 96) ∧
    parseBin (List.replicate 97 '1' ++ ['X']) = .error (.invalidCharacter ['X']) :=
  ⟨rfl, rfl⟩

theorem test_parseHex_vectors :
    parseHex ['a', '5'] = .ok [true, false, true, false, false, true, false, true] ∧
    parseHex ['A', ' ', 'B'] = .ok [true, false, true, false, true, false, true, true] ∧
    parseHex ['A', 'B', 'C'] = .error .oddLength ∧
    parseHex ['0', 'x', '1', 'F'] = .error (.invalidCharacter ['X']) ∧
    parseHex [Char.ofNat 0xE9, '1'] = .error (.invalidCharacter [Char.ofNat 0xE9]) :=
  ⟨rfl, rfl, rfl, rfl, rfl⟩

theorem test_parseHex_precedence :
    parseHex ['1', '2', 'g'] = .error (.invalidCharacter ['G']) ∧
    parseHex (List.replicate 25 'F') = .error .oddLength ∧
    parseHex (List.replicate 26 'F') = .error (.tooLong 104 96) ∧
    parseHex [' ', ' '] = .error .emptyInput :=
  ⟨rfl, rfl, rfl, rfl⟩

/-- K25. -/
theorem test_loadBits :
    loadBitsLines [true, false, true] =
      [.xfer 0x114A0000000#41, .xfer 0x11800000000#41, .xfer 0x11C00000000#41,
       .xfer 0x10800000003#41] := by
  decide

/-- Program P3's words: `SETITER 100000` and `START RUN_BATCH`. -/
theorem test_setIter_and_start :
    setIterLines 100000#64 ++ startLines .runBatch =
      [.xfer 0x10C000186A0#41, .xfer 0x11000000000#41, .xfer 0x10000000003#41] := by
  decide

theorem test_render_vectors :
    render 0x7FFF#15 =
      { hex := ['7', 'F', 'F', 'F'], dec := ['3', '2', '7', '6', '7'],
        bin := List.replicate 15 '1' } ∧
    render 0#15 =
      { hex := ['0', '0', '0', '0'], dec := ['0'], bin := List.replicate 15 '0' } ∧
    (render 0x0095#15).dec = ['1', '4', '9'] ∧ (render 0x4C48#15).hex = ['4', 'C', '4', '8'] := by
  decide

/-! ## States and operands that meet the hypotheses of the statements -/

/-- An idle block without errors meets the invariant when its parts do. -/
theorem inv_intro (s : State) (flags : s.done = false ∧ s.err = false ∧ s.errCode = 0#3)
    (top : s.result.getLsbD 15 = false) (table : s.tbl = canonTable)
    (pool : s.workers.length = 2) (running : s.busy = true → Running s) : Inv s where
  flags := by simp [flags.1, flags.2.1]
  errCode := by simp [flags.2.1, flags.2.2]
  resultTop := top
  table := table
  pool := by simp [State.numWorkers, pool, Config.maxWorkers]
  running := running

theorem test_inv_base : Inv base :=
  inv_intro _ (by decide) (by decide) rfl rfl (fun h => absurd h (by decide))

theorem test_inv_start_commands :
    Inv (inOp 1#4 .start) ∧ Inv (inOp 2#4 .start) ∧ Inv (inOp 3#4 .start) ∧ Inv (inOp 4#4 .start) := by
  have hl : ∀ op p, LengthAdmitted (inOp op p) := fun _ _ =>
    show 1 ≤ base.len.toNat ∧ base.len.toNat ≤ 96 by decide
  have hn : ∀ op p, IterationsAdmitted (inOp op p) := fun _ _ =>
    show 1 ≤ base.iter.toNat ∧ base.iter.toNat ≤ 1000000000 by decide
  refine ⟨?_, ?_, ?_, ?_⟩
  · exact inv_intro _ (by decide) (by decide) rfl rfl
      (fun _ => show RefRunning _ from ⟨hl _ _, .inl rfl⟩)
  · exact inv_intro _ (by decide) (by decide) rfl rfl
      (fun _ => show FastRunning _ from ⟨hl _ _, .inl rfl⟩)
  · exact inv_intro _ (by decide) (by decide) rfl rfl
      (fun _ => show BatchRunning _ from ⟨hl _ _, hn _ _, .inl rfl⟩)
  · exact inv_intro _ (by decide) (by decide) rfl rfl
      (fun _ => show BuildRunning _ from .inl rfl)

theorem test_inv_consumed : Inv consumed :=
  inv_intro _ (by decide) (by decide) rfl rfl
    (fun _ => show RefRunning _ from
      ⟨⟨by decide, by decide⟩, .inr ⟨rfl, by decide, by decide⟩⟩)

theorem test_inv_pooled : Inv pooled := by
  refine inv_intro _ (by decide) (by decide) rfl rfl (fun _ => show BatchRunning _ from
    ⟨⟨by decide, by decide⟩, ⟨by decide, by decide⟩, .inr (.inr ⟨by decide, rfl, ?_⟩)⟩)
  intro w k hk
  match w, hk with
  | 0, hk => cases hk; exact ⟨by decide, by decide, fun _ => by decide, fun h => absurd h (by decide)⟩
  | 1, hk =>
    cases hk
    exact ⟨by decide, by decide, fun h => absurd h (by decide), fun h => absurd h (by decide)⟩

theorem test_inv_joined : Inv joined := by
  refine inv_intro _ (by decide) (by decide) rfl rfl (fun _ => show BatchRunning _ from
    ⟨⟨by decide, by decide⟩, ⟨by decide, by decide⟩, .inr (.inr ⟨by decide, rfl, ?_⟩)⟩)
  intro w k hk
  match w, hk with
  | 0, hk => cases hk; exact ⟨by decide, by decide, fun _ => by decide, fun _ => by decide⟩
  | 1, hk => cases hk; exact ⟨by decide, by decide, fun _ => by decide, fun _ => by decide⟩

theorem test_witness_DecodeUndoesEncode :
    WellFormed (.rdReserved38 0x38#8) ∧ WellFormed (.wrReserved38 0x3C#8 1#32) ∧
    WellFormed (.rdReserved40 0x40#8) ∧ WellFormed (.wrReserved40 0x7C#8 1#32) ∧
    WellFormed (.rdReserved80 0x80#8) ∧ WellFormed (.wrReserved80 0xFC#8 1#32) ∧
    WellFormed (.misalignedOdd .write 0xFF#8 1#32) ∧ WellFormed (.misalignedOdd .read 0x01#8 0#32) ∧
    WellFormed (.misalignedHalf .write 0x02#8 1#32) ∧ WellFormed (.misalignedHalf .read 0xFE#8 0#32) ∧
    WellFormed (.wrLen 0xFFFFFFFF#32) ∧ WellFormed (.crcRef 0xFFFFFFF#28) := by
  decide

theorem test_witness_StepIsOneAgentsStep :
    (nextTurn { base with turns := [.host], script := [.xfer 0x10800000048#41] } = .host) ∧
    (nextTurn { base with turns := [.host], script := [.poll 0] } = .host) ∧
    (nextTurn { base with turns := [.host] } = .host ∧ base.script = []) ∧
    nextTurn { base with turns := [.eng] } = .eng ∧ nextTurn { base with turns := [.wrk 1] } = .wrk 1 ∧
    nextTurn { base with turns := [.reset] } = .reset := by
  decide

/-- Meets the hypotheses of ReservedCodesRefused, ReadBackAfterWrite and the idle clauses of the write and
read statements. -/
theorem test_witness_idle : base.busy = false := rfl

/-- Meets the hypotheses of BusyCtrlWriteIgnored and the busy clauses of the write and read statements. -/
theorem test_witness_busy : (inOp 3#4 .join).busy = true := rfl

theorem test_witness_CommandsAccepted :
    base.busy = false ∧ 1 ≤ (1#7).toNat ∧ (96#7).toNat ≤ 96 ∧
    1 ≤ (1#64).toNat ∧ (1000000000#64).toNat ≤ 1000000000 ∧
    (∃ t, exec (.crcRef 0#28) { base with len := 1#7 } = .next t ∧ t.busy = true) ∧
    (∃ t, exec (.crcFast 0#28) { base with len := 96#7 } = .next t ∧ t.busy = true) ∧
    (∃ t, exec (.runBatch 0#28) { base with len := 96#7, iter := 1#64 } = .next t ∧ t.busy = true) ∧
    (∃ t, exec (.runBatch 0#28) { base with len := 1#7, iter := 1000000000#64 } = .next t ∧
      t.busy = true) :=
  ⟨rfl, by decide, by decide, by decide, by decide, ⟨_, rfl, rfl⟩, ⟨_, rfl, rfl⟩, ⟨_, rfl, rfl⟩,
    ⟨_, rfl, rfl⟩⟩

theorem test_witness_BadInputRefusedInOrder :
    base.busy = false ∧ ({ base with len := 0#7 } : State).len.toNat = 0 ∧
    96 < ({ base with len := 97#7 } : State).len.toNat ∧
    96 < ({ base with len := 127#7 } : State).len.toNat ∧
    (1 ≤ base.len.toNat ∧ base.len.toNat ≤ 96 ∧ ({ base with iter := 0#64 } : State).iter.toNat < 1) ∧
    1000000000 < ({ base with iter := 1000000001#64 } : State).iter.toNat := by
  decide

theorem test_witness_DataWriteSetsItsCells :
    (2, Instr.wrData2 5#32) ∈ [(0, Instr.wrData0 5#32), (1, .wrData1 5#32), (2, .wrData2 5#32)] ∧
    cellOf (after (exec (.wrData2 1#32) base)).bits 95 = true ∧
    cellOf (after (exec (.wrData0 0x80000000#32) base)).bits 0 = true := by
  decide

theorem test_witness_TblDataReadsTheEntry : base.tbl = canonTable := rfl

theorem test_witness_ElapsedAndPoolReads :
    1 ≤ ({ base with workers := [Worker.reset] } : State).workers.length ∧
    ({ base with workers := List.replicate 65535 Worker.reset } : State).workers.length ≤ 65535 :=
  ⟨by decide, (List.length_replicate ..).le⟩

theorem test_witness_MisalignedRefused :
    (Txn.off 0x10100000000#41).toNat % 4 ≠ 0 ∧ (Txn.off 0x0FE00000000#41).toNat % 4 ≠ 0 ∧
    (Txn.off 0x10300000000#41).toNat % 4 ≠ 0 ∧ (Txn.off 0x00000000000#41).toNat % 4 = 0 ∧
    (Txn.off 0x1FC00000000#41).toNat % 4 = 0 := by
  decide

theorem test_witness_CrcIsLinear : [true, false, true].length = [false, false, true].length := rfl

theorem test_witness_TableIsLinearAndDistinct : tblEntry 0xA5#8 = tblEntry (0xA0#8 ^^^ 0x05#8) := by
  decide

theorem test_witness_Quotas :
    1 ≤ 1 ∧ 100000 ≤ 100000 ∧ 65535 ≤ 65535 ∧ 65534 < 65535 ∧ quota 100000 65535 65534 = 1 := by
  decide

theorem test_witness_ParallelDispatch :
    let s := { inOp 3#4 .start with iter := 100000#64 }
    s.busy = true ∧ s.op = 3#4 ∧ s.phase = .start ∧ 100000 ≤ s.iter.toNat ∧
      s.workers[1]? = some Worker.reset := by
  decide

/-- One worker with iterations left, one ready for its final step, one finished, one with an empty
quota. -/
theorem test_witness_WorkerSteps :
    pooled.busy = true ∧ pooled.op = 3#4 ∧ pooled.phase = .join ∧
    (∃ k, pooled.workers[1]? = some k ∧ k.fin = false ∧ k.count.toNat < k.quota.toNat) ∧
    (∃ k, pooled.workers[0]? = some k ∧ k.fin = false ∧ k.count = k.quota ∧ 0 < k.quota.toNat) ∧
    (∃ k, joined.workers[0]? = some k ∧ k.fin = true) ∧
    (∃ k, (inOp 3#4 .join).workers[0]? = some k ∧ k.fin = false ∧ k.count = k.quota ∧
      k.quota.toNat = 0) :=
  ⟨rfl, rfl, rfl, ⟨fresh, rfl, rfl, by decide⟩, ⟨spent false, rfl, rfl, rfl, by decide⟩,
    ⟨spent true, rfl, rfl⟩, ⟨Worker.reset, rfl, rfl, rfl, by decide⟩⟩

theorem test_witness_AgentsStepOnlyInTheirTime :
    (pooled.busy = true ∧ pooled.op = 3#4 ∧ pooled.phase = .join ∧
      ∃ k ∈ pooled.workers, k.fin = false) ∧
    (joined.busy = true ∧ joined.op = 3#4 ∧ joined.phase = .join ∧
      ∀ k ∈ joined.workers, k.fin = true) ∧
    base.busy = false ∧ (inOp 1#4 .join).op ≠ 3#4 ∧ (inOp 3#4 .finish).phase ≠ .join ∧
    pooled.workers.length ≤ 2 := by
  decide

theorem test_witness_WorkersCommute : Inv pooled ∧ (0 : Nat) ≠ 1 :=
  ⟨test_inv_pooled, by decide⟩

theorem test_witness_StepKeepsTheInvariant :
    (∃ t, step consumed = .next t) ∧ Inv consumed ∧ (∃ t, step joined = .next t) ∧ Inv joined :=
  ⟨⟨_, rfl⟩, test_inv_consumed, ⟨_, rfl⟩, test_inv_joined⟩

theorem test_witness_CompletedCommandHoldsTheCrc :
    (Inv consumed ∧ consumed.busy = true ∧ consumed.op ∈ [1#4, 2#4, 3#4] ∧
      ∃ t, step consumed = .next t ∧ t.busy = false ∧ t.done = true) ∧
    (Inv joined ∧ joined.busy = true ∧ joined.op ∈ [1#4, 2#4, 3#4] ∧
      ∃ t, step joined = .next t ∧ t.busy = false ∧ t.done = true) :=
  ⟨⟨test_inv_consumed, rfl, by decide, ⟨_, rfl, rfl, rfl⟩⟩,
    ⟨test_inv_joined, rfl, by decide, ⟨_, rfl, rfl, rfl⟩⟩⟩

theorem test_witness_BuildRestoresTheTableOnly :
    (inOp 4#4 .start).busy = true ∧ (inOp 4#4 .start).op = 4#4 ∧ (inOp 4#4 .start).phase = .start :=
  ⟨rfl, rfl, rfl⟩

/-- Meets the hypotheses of RunningCommandIsNeverStuck: once by ENG, once by a worker. -/
theorem test_witness_RunningCommandIsNeverStuck :
    Inv consumed ∧ consumed.busy = true ∧ Inv pooled ∧ pooled.busy = true :=
  ⟨test_inv_consumed, rfl, test_inv_pooled, rfl⟩

theorem test_witness_StepsLeftNeverGrow :
    Inv consumed ∧ consumed.busy = true ∧ stepsLeft consumed = 1 ∧
    ∃ t, step consumed = .next t ∧ stepsLeft t = 0 :=
  ⟨test_inv_consumed, rfl, by decide, ⟨_, rfl, by decide⟩⟩

theorem test_witness_EngineAloneCompletes :
    Inv consumed ∧ consumed.busy = true ∧ (consumed.op = 3#4 → consumed.iter.toNat < 100000) ∧
    consumed.turns = List.replicate (stepsLeft consumed) Turn.eng ++ [] :=
  ⟨test_inv_consumed, rfl, by decide, by decide⟩

theorem test_witness_CommandStepCounts :
    let s := { inOp 2#4 .start with len := 95#7 }
    let p := { inOp 3#4 .start with iter := 100000#64 }
    (s.busy = true ∧ s.phase = .start ∧ s.len.toNat ≤ 96 ∧ s.op = 2#4 ∧
      stepsLeft s = 20) ∧
    ((inOp 1#4 .start).op = 1#4 ∧ stepsLeft (inOp 1#4 .start) = 14) ∧
    ({ inOp 1#4 .start with iter := 0#64, len := 0#7 } : State).op = 1#4 ∧
    (1 ≤ (inOp 3#4 .start).iter.toNat ∧ (inOp 3#4 .start).iter.toNat < 100000 ∧ stepsLeft (inOp 3#4 .start) = 8) ∧
    (p.op = 3#4 ∧ 100000 ≤ p.iter.toNat ∧ 1 < p.numWorkers) := by
  decide

/-- One round that names ENG alone: the workers have no step and are left out. -/
theorem test_witness_FairScheduleCompletes :
    let s := { consumed with turns := [.eng], script := [.xfer 0x00400000000#41] }
    (∀ x : Txn, HostLine.xfer x ∈ s.script → x.off.toNat % 4 = 0) ∧
    [[Turn.eng]].length = stepsLeft s ∧ (∀ r ∈ [[Turn.eng]], Turn.reset ∉ r) ∧
    (∀ (i : Nat) (r : List Turn) (t : State), [[Turn.eng]][i]? = some r →
      core.run ([[Turn.eng]].take i).flatten.length s = .next t → t.busy = true →
      ∀ a : Turn, CanStep a t → a ∈ r) ∧
    s.turns = [[Turn.eng]].flatten ++ [] ∧ s.busy = true ∧ Inv s := by
  refine ⟨?_, by decide, by decide, ?_, by decide, rfl, ?_⟩
  · intro x hx
    cases List.mem_singleton.mp hx
    decide
  · intro i r t hr ht _ a ha
    match i, hr with
    | 0, hr =>
      cases hr
      cases ht
      cases a with
      | eng => decide
      | host => exact absurd rfl ha
      | wrk w => exact absurd rfl ha
      | reset => exact absurd rfl ha
  · exact inv_intro _ (by decide) (by decide) rfl rfl
      (fun _ => show RefRunning _ from
        ⟨⟨by decide, by decide⟩, .inr ⟨rfl, by decide, by decide⟩⟩)

theorem test_witness_InputStableWhileBusy :
    let s := { inOp 1#4 .start with
      turns := [.host], script := [.xfer 0x1080000000C#41] }
    s.busy = true ∧ nextTurn s ≠ .reset ∧ ∃ t, step s = .next t :=
  ⟨rfl, by decide, ⟨_, rfl⟩⟩

/-- The twelve cells of the sequence agree, the cells after it do not. -/
theorem test_witness_CellsBeyondLenIgnored :
    (∀ i < base.len.toNat, cellOf 0xABCFFFFFFFFFFFFFFFFFFFFF#96 i = cellOf base.bits i) ∧
    (0xABCFFFFFFFFFFFFFFFFFFFFF#96 : BitVec 96) ≠ base.bits := by
  decide

theorem test_witness_OutcomeFlagsHold :
    (Inv consumed ∧ ∃ t, step consumed = .next t ∧ t.done ≠ consumed.done) ∧
    (∃ t, step { base with turns := [.host], script := [.xfer 0x10000000005#41] } = .next t ∧
      t.err ≠ base.err) :=
  ⟨⟨test_inv_consumed, ⟨_, rfl, by decide⟩⟩, ⟨_, rfl, by decide⟩⟩

theorem test_witness_BusyFallsOnlyByCompletionOrReset :
    (∃ t, step consumed = .next t ∧ consumed.busy = true ∧ t.busy = false) ∧
    (∃ t, step { base with turns := [.host], script := [.xfer 0x10000000001#41] } = .next t ∧
      base.busy = false ∧ t.busy = true) :=
  ⟨⟨_, rfl, rfl, rfl⟩, ⟨_, rfl, rfl, rfl⟩⟩

theorem test_witness_OutputsWrittenOnlyByTheirWriters :
    (∃ t, step consumed = .next t ∧ t.result ≠ consumed.result) ∧
    (∃ t, step { pooled with turns := [.wrk 0] } = .next t ∧ t.result ≠ pooled.result) ∧
    (∃ t, step { joined with turns := [.reset], elapsed := 7#64 } = .next t ∧ t.elapsed ≠ 7#64) :=
  ⟨⟨_, rfl, by decide⟩, ⟨_, rfl, by decide⟩, ⟨_, rfl, by decide⟩⟩

theorem test_witness_EngineElementsArePrivate :
    (∃ t, step { base with turns := [.host] } = .next t) ∧
    nextTurn { base with turns := [.host] } ≠ .eng ∧
    nextTurn { base with turns := [.host] } ≠ .reset ∧
    (∃ t, step { pooled with turns := [.wrk 0] } = .next t) ∧
    nextTurn { pooled with turns := [.wrk 0] } = .wrk 0 ∧ (1 : Nat) ≠ 0 ∧
    (∃ t, step joined = .next t) ∧ nextTurn joined = .eng ∧ joined.phase ≠ .start :=
  ⟨⟨_, rfl⟩, by decide, by decide, ⟨_, rfl⟩, rfl, by decide, ⟨_, rfl⟩, rfl, by decide⟩

theorem test_witness_NoReadHasASideEffect :
    Txn.dir 0x02000000000#41 = .read ∧ (Txn.off 0x02000000000#41).toNat % 4 = 0 ∧
    Txn.dir 0x0FC00000000#41 = .read ∧ (Txn.off 0x0FC00000000#41).toNat % 4 = 0 := by
  decide

theorem test_witness_StatusHasSevenValues :
    Inv base ∧ statusWord base = 0#32 ∧ Inv consumed ∧ statusWord consumed = 1#32 :=
  ⟨test_inv_base, by decide, test_inv_consumed, by decide⟩

theorem test_witness_ResetForcesTheResetState : nextTurn { joined with turns := [.reset] } = .reset :=
  rfl

/-- An offender, nothing, 97 digits, one digit and 96 digits. -/
theorem test_witness_ParseBinOutcomes :
    parseBin ['x'] = .error (.invalidCharacter ['x']) ∧ parseBin [' '] = .error .emptyInput ∧
    parseBin (List.replicate 97 '0') = .error (.tooLong 97 96) ∧ parseBin ['1'] = .ok [true] ∧
    parseBin (List.replicate 96 '1') = .ok (List.replicate 96 true) :=
  ⟨rfl, rfl, rfl, rfl, rfl⟩

/-- An offender (raised, and one that is no letter), nothing, an odd count, 26 digits, two digits and 24
digits. -/
theorem test_witness_ParseHexOutcomes :
    parseHex ['g', '`', '('] = .error (.invalidCharacter ['G', '`', '(']) ∧ parseHex [] = .error .emptyInput ∧
    parseHex ['0'] = .error .oddLength ∧
    parseHex (List.replicate 26 '0') = .error (.tooLong 104 96) ∧
    parseHex ['0', '0'] = .ok (List.replicate 8 false) ∧
    parseHex (List.replicate 24 'F') = .ok (List.replicate 96 true) :=
  ⟨rfl, rfl, rfl, rfl, rfl, rfl⟩

/-- The text `a b` spells the byte AB. -/
theorem test_witness_HexAndBinaryTextsAgree :
    significant ([' ', 'a', ' ', 'b'].map upper) =
      [0xAB#8].flatMap (fun b => [hexDigit (b.toNat / 16), hexDigit (b.toNat % 16)]) := by
  decide

theorem test_witness_LoadBitsLoadsTheSequence :
    let s := { base with script := loadBitsLines [true, false, true], turns := List.replicate 4 .host }
    1 ≤ [true, false, true].length ∧ [true, false, true].length ≤ 96 ∧ s.busy = false ∧
    s.script = loadBitsLines [true, false, true] ++ [] ∧
    s.turns = List.replicate 4 Turn.host ++ [] := by
  decide

theorem test_witness_CommandRunsFromIdleToItsResult :
    (Inv base ∧ base.busy = false ∧ 1 ≤ base.len.toNat ∧ base.len.toNat ≤ 96 ∧
      1 ≤ base.iter.toNat ∧ base.iter.toNat < 100000) ∧
    (Inv { base with iter := 100000#64 } ∧
      100000 ≤ ({ base with iter := 100000#64 } : State).iter.toNat ∧
      ({ base with iter := 1000000000#64 } : State).iter.toNat ≤ 1000000000) :=
  ⟨⟨test_inv_base, by decide⟩,
    inv_intro _ (by decide) (by decide) rfl rfl (fun h => absurd h (by decide)), by decide⟩

end Sys2Proof.Tests
end

namespace Sys2Proof.Machine

/-! ### The CRC functions: linearity, and the byte step as eight bit steps -/

/-- The bit step is linear in the register and the input bit together (42_crc_engine.md R105). -/
theorem bitStep_xor (p q : Crc15) (a b : Bool) :
    bitStep (p ^^^ q) (Bool.xor a b) = bitStep p a ^^^ bitStep q b := by
  have hfeed : Bool.xor (Bool.xor a b) (p ^^^ q)[14] =
      Bool.xor (Bool.xor a p[14]) (Bool.xor b q[14]) := by
    simp only [BitVec.getElem_xor, Bool.xor_assoc, Bool.xor_left_comm]
  rw [bitStep_eq, bitStep_eq, bitStep_eq, hfeed, feedbackTerm_xor, BitVec.shiftLeft_xor_distrib]
  ac_rfl

theorem zeroSteps_xor (n : Nat) (p q : Crc15) :
    zeroSteps n (p ^^^ q) = zeroSteps n p ^^^ zeroSteps n q := by
  induction n generalizing p q with
  | zero => rfl
  | succ n ih =>
    have hstep : bitStep (p ^^^ q) false = bitStep p false ^^^ bitStep q false :=
      bitStep_xor p q false false
    simp only [zeroSteps, hstep, ih]

/-- The register and the bits consumed contribute to a computation separately. -/
theorem foldl_bitStep_xor (l : List Bool) (p q : Crc15) :
    l.foldl bitStep (p ^^^ q) = zeroSteps l.length p ^^^ l.foldl bitStep q := by
  induction l generalizing p q with
  | nil => rfl
  | cons b l ih =>
    have hstep : bitStep (p ^^^ q) b = bitStep p false ^^^ bitStep q b := by
      simpa using bitStep_xor p q false b
    simp only [List.foldl_cons, List.length_cons, zeroSteps, hstep, ih]

/-- While no one bit reaches the top, steps with input 0 only shift. -/
theorem zeroSteps_eq_shiftLeft (n : Nat) (r : Crc15) (hn : n ≤ 15) (h : r.toNat < 2 ^ (15 - n)) :
    zeroSteps n r = r <<< n := by
  induction n generalizing r with
  | zero => simp [zeroSteps]
  | succ n ih =>
    have hpow : 2 ^ (15 - n) = 2 * 2 ^ (15 - (n + 1)) := by
      rw [← Nat.pow_succ', Nat.succ_eq_add_one, show 15 - (n + 1) + 1 = 15 - n by omega]
    have hle : 2 ^ (15 - n) ≤ 2 ^ 15 := Nat.pow_le_pow_right (by decide) (by omega)
    have htop : r[14] = false := by
      rw [← BitVec.getLsbD_eq_getElem, BitVec.getLsbD]
      exact Nat.testBit_lt_two_pow (by omega)
    have hstep : bitStep r false = r <<< 1 := by
      simp [bitStep_eq, htop, feedbackTerm]
    have hshift : (r <<< 1).toNat < 2 ^ (15 - n) := by
      rw [BitVec.toNat_shiftLeft, Nat.shiftLeft_eq]
      exact lt_of_le_of_lt (Nat.mod_le _ _) (by omega)
    rw [zeroSteps, hstep, ih _ (by omega) hshift, ← BitVec.shiftLeft_add, Nat.add_comm]

theorem tableSeed_xor (a b : BitVec 8) : tableSeed (a ^^^ b) = tableSeed a ^^^ tableSeed b := by
  simp [tableSeed, BitVec.setWidth_xor, BitVec.shiftLeft_xor_distrib]

theorem tblEntry_xor (a b : BitVec 8) : tblEntry (a ^^^ b) = tblEntry a ^^^ tblEntry b := by
  simp only [tblEntry, tableSeed_xor, zeroSteps_xor]

/-- A register is its low seven bits and, as the seed of a table entry, its top eight. -/
theorem low_xor_tableSeed (r : Crc15) :
    r = (r &&& 0x7F#15) ^^^ tableSeed ((r >>> Config.seedShift).setWidth 8) := by
  have ones : ∀ i < 15, (0x7F#15).getLsbD i = decide (i < 7) := by decide
  apply BitVec.eq_of_getLsbD_eq
  intro i hi
  simp only [tableSeed, Config.seedShift, BitVec.getLsbD_xor, BitVec.getLsbD_and,
    BitVec.getLsbD_shiftLeft, BitVec.getLsbD_setWidth, BitVec.getLsbD_ushiftRight, ones i hi]
  by_cases h : i < 7
  · simp [h]
  · have h1 : i - 7 < 15 := by omega
    have h2 : i - 7 < 8 := by omega
    have h3 : 7 + (i - 7) = i := by omega
    simp [h, hi, h1, h2, h3]

/-- Eight steps with input 0 are a byte step with the byte 0 (42_crc_engine.md R101). -/
theorem zeroSteps_eight (r : Crc15) :
    zeroSteps 8 r = r <<< 8 ^^^ tblEntry ((r >>> Config.seedShift).setWidth 8) := by
  have hlow : (r &&& 0x7F#15).toNat < 2 ^ 7 := by
    rw [BitVec.toNat_and]
    exact Nat.and_lt_two_pow _ (by decide)
  have hshift : (r &&& 0x7F#15) <<< 8 = r <<< 8 := by
    have ones : ∀ i < 7, (0x7F#15).getLsbD i = true := by decide
    apply BitVec.eq_of_getLsbD_eq
    intro i hi
    simp only [BitVec.getLsbD_shiftLeft, BitVec.getLsbD_and]
    by_cases h : i < 8
    · simp [h]
    · simp [ones (i - 8) (by omega)]
  calc zeroSteps 8 r
      = zeroSteps 8 (r &&& 0x7F#15)
          ^^^ zeroSteps 8 (tableSeed ((r >>> Config.seedShift).setWidth 8)) := by
        rw [← zeroSteps_xor, ← low_xor_tableSeed]
    _ = r <<< 8 ^^^ tblEntry ((r >>> Config.seedShift).setWidth 8) := by
        rw [zeroSteps_eq_shiftLeft 8 _ (by decide) hlow, hshift, tblEntry]

set_option maxRecDepth 10000 in
/-- A table entry is the CRC of its byte (41_crc_table.md R92), over the eight bits of the byte. -/
theorem crcRef_eight_bits : ∀ b7 b6 b5 b4 b3 b2 b1 b0 : Bool,
    crcRef [b7, b6, b5, b4, b3, b2, b1, b0] =
      tblEntry (byteOfBits [b7, b6, b5, b4, b3, b2, b1, b0]) := by
  decide

theorem crcRef_of_length_eight (l : List Bool) (h : l.length = 8) :
    crcRef l = tblEntry (byteOfBits l) := by
  match l, h with
  | [b7, b6, b5, b4, b3, b2, b1, b0], _ => exact crcRef_eight_bits ..

/-- A byte step over the constant table is eight bit steps over the byte's bits (42_crc_engine.md
R104). -/
theorem byteStep_eq_foldl (r : Crc15) (l : List Bool) (h : l.length = 8) :
    byteStep canonTable r (byteOfBits l) = l.foldl bitStep r := by
  calc byteStep canonTable r (byteOfBits l)
      = zeroSteps 8 r ^^^ tblEntry (byteOfBits l) := by
        rw [byteStep, tableAt_canonTable, tableIndex, tblEntry_xor, zeroSteps_eight,
          BitVec.xor_assoc]
    _ = zeroSteps l.length r ^^^ l.foldl bitStep 0#15 := by
        rw [← crcRef_of_length_eight l h, h, crcRef]
    _ = l.foldl bitStep r := by
        rw [← foldl_bitStep_xor, BitVec.xor_zero]

/-- A byte step at a byte boundary takes the CRC of what is consumed eight bits further. -/
theorem byteStep_crcRef_take (bits : List Bool) (k : Nat) (h : 8 * k + 8 ≤ bits.length) :
    byteStep canonTable (crcRef (bits.take (8 * k))) (byteAt bits k) =
      crcRef (bits.take (8 * k + 8)) := by
  have hlen : ((bits.drop (8 * k)).take 8).length = 8 := by
    rw [List.length_take, List.length_drop]
    omega
  rw [byteAt, byteStep_eq_foldl _ _ hlen, ← crcRef_append, List.take_add]

theorem foldl_byteStep_eq_crcRef_take (bits : List Bool) (n : Nat) (h : 8 * n ≤ bits.length) :
    (List.range n).foldl (fun r k => byteStep canonTable r (byteAt bits k)) 0#15 =
      crcRef (bits.take (8 * n)) := by
  induction n with
  | zero => simp
  | succ n ih =>
    rw [List.range_succ, List.foldl_append, ih (by omega), List.foldl_cons, List.foldl_nil,
      byteStep_crcRef_take bits n (by omega), Nat.mul_succ]

/-- The fast computation over the constant table is the reference computation (42_crc_engine.md
R104). -/
theorem crcFast_canonTable (bits : List Bool) : crcFast canonTable bits = crcRef bits := by
  have hnb : 8 * (bits.length / 8) ≤ bits.length := Nat.mul_div_le _ _
  simp only [crcFast, foldl_byteStep_eq_crcRef_take bits _ hnb]
  rw [← crcRef_append, List.take_append_drop]

/-! ### What a step of ENG can be -/

/-- What a step of ENG that does something can have been, with its guard. -/
inductive EngineEffect (s : State) : State → Prop where
  /-- `CRC_REF` or `CRC_FAST` begins. -/
  | start (op : s.op = 1#4 ∨ s.op = 2#4) (phase : s.phase = .start) :
      EngineEffect s (beginComputation s)
  /-- A single or sequential batch begins. -/
  | startLoop (op : s.op = 3#4) (phase : s.phase = .start)
      (path : s.iter.toNat < Config.parThreshold) : EngineEffect s (beginLoop s)
  /-- A parallel batch is dispatched. -/
  | dispatch (op : s.op = 3#4) (phase : s.phase = .start)
      (path : Config.parThreshold ≤ s.iter.toNat) : EngineEffect s (dispatchWorkers s)
  /-- One bit is consumed; on the fast path only when no whole byte is left. -/
  | bit (op : s.op ≠ 4#4) (phase : s.phase = .compute) (more : s.pos.toNat < s.len.toNat)
      (trailing : s.op ≠ 1#4 → s.len.toNat < s.pos.toNat + 8) : EngineEffect s (bitMicro s)
  /-- One byte is consumed on the fast path. -/
  | byte (op : s.op = 2#4 ∨ s.op = 3#4) (phase : s.phase = .compute)
      (more : s.pos.toNat + 8 ≤ s.len.toNat) : EngineEffect s (byteMicro s)
  /-- A batch counts a computation whose sequence is consumed. -/
  | count (op : s.op = 3#4) (phase : s.phase = .compute) (consumed : s.len.toNat ≤ s.pos.toNat) :
      EngineEffect s (countComputation s)
  /-- `CRC_REF` or `CRC_FAST` completes. -/
  | result (op : s.op = 1#4 ∨ s.op = 2#4) (phase : s.phase = .compute)
      (consumed : s.len.toNat ≤ s.pos.toNat) : EngineEffect s (complete (storeResult s))
  /-- A single or sequential batch completes. -/
  | endLoop (op : s.op = 3#4) (phase : s.phase = .finish) :
      EngineEffect s (complete (drawElapsed (storeResult s)))
  /-- A parallel batch is joined. -/
  | join (op : s.op = 3#4) (phase : s.phase = .join) (finished : allFinished s = true) :
      EngineEffect s (complete (drawElapsed s))
  /-- `TBL_BUILD` stores the table. -/
  | fill (op : s.op = 4#4) (phase : s.phase = .start) :
      EngineEffect s { s with tbl := canonTable, phase := .finish }
  /-- `TBL_BUILD` completes. -/
  | built (op : s.op = 4#4) (phase : s.phase = .finish) : EngineEffect s (complete s)

theorem crcRefStep_effect (s : State) (op : s.op = 1#4) :
    crcRefStep s = s ∨ EngineEffect s (crcRefStep s) := by
  unfold crcRefStep
  split
  case h_1 hp => exact .inr (.start (.inl op) hp)
  case h_2 hp =>
    right
    split_ifs with hm
    · exact .bit (by simp [op]) hp hm (absurd op)
    · exact .result (.inl op) hp (by omega)
  all_goals exact .inl rfl

theorem crcFastStep_effect (s : State) (op : s.op = 2#4) :
    crcFastStep s = s ∨ EngineEffect s (crcFastStep s) := by
  unfold crcFastStep
  split
  case h_1 hp => exact .inr (.start (.inr op) hp)
  case h_2 hp =>
    right
    rcases fastBody_cases (fun s => complete (storeResult s)) s with
      ⟨hm, he⟩ | ⟨ht, hm, he⟩ | ⟨hc, he⟩ <;> rw [he]
    · exact .byte (.inl op) hp hm
    · exact .bit (by simp [op]) hp hm fun _ => ht
    · exact .result (.inr op) hp hc
  all_goals exact .inl rfl

theorem batchPath_cases (n : Nat) :
    (n < Config.parThreshold ∧ (batchPath n = .single ∨ batchPath n = .sequential)) ∨
    (Config.parThreshold ≤ n ∧ batchPath n = .parallel) := by
  have h := batchPath_parallel n
  cases hp : batchPath n <;> simp [hp] at h ⊢ <;> exact h

theorem runBatchStep_effect (s : State) (op : s.op = 3#4) :
    runBatchStep s = s ∨ EngineEffect s (runBatchStep s) := by
  unfold runBatchStep
  split
  case h_1 hp =>
    right
    rcases batchPath_cases s.iter.toNat with ⟨hn, he | he⟩ | ⟨hn, he⟩ <;> rw [he]
    · exact .startLoop op hp hn
    · exact .startLoop op hp hn
    · exact .dispatch op hp hn
  case h_2 hp =>
    right
    rcases fastBody_cases countComputation s with ⟨hm, he⟩ | ⟨ht, hm, he⟩ | ⟨hc, he⟩ <;> rw [he]
    · exact .byte (.inr op) hp hm
    · exact .bit (by simp [op]) hp hm fun _ => ht
    · exact .count op hp hc
  case h_3 hp => exact .inr (.endLoop op hp)
  case h_4 hp =>
    split_ifs with hf
    · exact .inr (.join op hp hf)
    · exact .inl rfl

theorem tblBuildStep_effect (s : State) (op : s.op = 4#4) :
    tblBuildStep s = s ∨ EngineEffect s (tblBuildStep s) := by
  unfold tblBuildStep
  split
  case h_1 hp => exact .inr (.fill op hp)
  case h_3 hp => exact .inr (.built op hp)
  all_goals exact .inl rfl

/-- A step of ENG does nothing, or the block is busy and it is one of the eleven kinds. -/
theorem engStep_effect (s : State) :
    engStep s = s ∨ (s.busy = true ∧ EngineEffect s (engStep s)) := by
  cases hb : s.busy
  · exact .inl (by simp [engStep, hb])
  · simp only [engStep, hb, if_true, true_and]
    cases hc : commandOf s.op with
    | none => exact .inl rfl
    | some c =>
      have op := (commandOf_eq_some s.op c).1 hc
      cases c with
      | crcRef => exact crcRefStep_effect s op
      | crcFast => exact crcFastStep_effect s op
      | runBatch => exact runBatchStep_effect s op
      | tblBuild => exact tblBuildStep_effect s op

/-- After a computation of a batch, the next one begins or the loop is over. -/
theorem countComputation_cases (s : State) :
    ((s.icnt + 1#64).toNat < s.iter.toNat ∧
      countComputation s = beginComputation { s with icnt := s.icnt + 1#64 }) ∨
    (s.iter.toNat ≤ (s.icnt + 1#64).toNat ∧
      countComputation s = { s with icnt := s.icnt + 1#64, phase := .finish }) := by
  unfold countComputation
  dsimp only
  split_ifs with h
  · exact .inl ⟨h, rfl⟩
  · exact .inr ⟨Nat.le_of_not_lt h, rfl⟩

/-- Counting a computation writes to ENG's own elements alone. -/
theorem countComputation_advance (s : State) :
    ∃ r p n ph, countComputation s = { s with reg := r, pos := p, icnt := n, phase := ph } := by
  rcases countComputation_cases s with ⟨-, he⟩ | ⟨-, he⟩
  · exact ⟨_, _, _, _, he⟩
  · exact ⟨_, _, _, _, he⟩

/-! ### What a turn of the host leaves unchanged -/

/-- The elements that no transaction writes: those of the agents behind the boundary. -/
structure SameBehindBoundary (s t : State) : Prop where
  reg : t.reg = s.reg
  pos : t.pos = s.pos
  icnt : t.icnt = s.icnt
  workers : t.workers = s.workers
  result : t.result = s.result
  elapsed : t.elapsed = s.elapsed

theorem SameBehindBoundary.trans {s t u : State} (h : SameBehindBoundary s t)
    (h' : SameBehindBoundary t u) : SameBehindBoundary s u :=
  ⟨h'.reg.trans h.reg, h'.pos.trans h.pos, h'.icnt.trans h.icnt, h'.workers.trans h.workers,
    h'.result.trans h.result, h'.elapsed.trans h.elapsed⟩

theorem ctrlWrite_sameBehindBoundary (op : BitVec 4) (s : State) :
    SameBehindBoundary s (ctrlWrite op s) := by
  rcases ctrlWrite_cases op s with ⟨-, h⟩ | ⟨-, e, h⟩ | ⟨-, c, -, -, h⟩ <;> rw [h] <;>
    exact ⟨rfl, rfl, rfl, rfl, rfl, rfl⟩

theorem exec_sameBehindBoundary (i : Instr) (s t : State) (h : exec i s = .next t) :
    SameBehindBoundary s t := by
  cases exec_effect i s t h with
  | command op => exact ctrlWrite_sameBehindBoundary op s
  | observed | input | index => exact ⟨rfl, rfl, rfl, rfl, rfl, rfl⟩

theorem takeTurn_sameBehindBoundary (s : State) (script : List HostLine) :
    SameBehindBoundary s { takeTurn s with script := script } :=
  ⟨takeTurn_reg s, takeTurn_pos s, takeTurn_icnt s, takeTurn_workers s, takeTurn_result s,
    takeTurn_elapsed s⟩

/-! ### The invariant, command by command -/

theorem running_iff_ref {s : State} (op : s.op = 1#4) : Running s ↔ RefRunning s := by
  unfold Running
  rw [op]
  rfl

theorem running_iff_fast {s : State} (op : s.op = 2#4) : Running s ↔ FastRunning s := by
  unfold Running
  rw [op]
  rfl

theorem running_iff_batch {s : State} (op : s.op = 3#4) : Running s ↔ BatchRunning s := by
  unfold Running
  rw [op]
  rfl

theorem running_iff_build {s : State} (op : s.op = 4#4) : Running s ↔ BuildRunning s := by
  unfold Running
  rw [op]
  rfl

/-- A running command is one of the four. -/
theorem Running.op_cases {s : State} (h : Running s) :
    s.op = 1#4 ∨ s.op = 2#4 ∨ s.op = 3#4 ∨ s.op = 4#4 := by
  unfold Running at h
  cases hc : commandOf s.op with
  | none => simp [hc] at h
  | some c =>
    have op := (commandOf_eq_some s.op c).1 hc
    cases c
    · exact .inl op
    · exact .inr (.inl op)
    · exact .inr (.inr (.inl op))
    · exact .inr (.inr (.inr op))

/-- What the invariant says of a batch in the middle of a computation. -/
theorem Running.loop {s : State} (h : Running s) (op : s.op = 3#4) (phase : s.phase = .compute) :
    LengthAdmitted s ∧ IterationsAdmitted s ∧ s.iter.toNat < Config.parThreshold ∧
      s.icnt.toNat < s.iter.toNat ∧ PrefixConsumed s ∧ CursorAligned s := by
  rw [running_iff_batch op] at h
  obtain ⟨hlen, hiter, hs | ⟨path, ⟨-, hloop⟩ | ⟨hp, -⟩⟩ | ⟨-, hp, -⟩⟩ := h
  · simp [phase] at hs
  · exact ⟨hlen, hiter, path, hloop⟩
  · simp [phase] at hp
  · simp [phase] at hp

/-- What the invariant says of a command in the middle of a computation. -/
theorem Running.computing {s : State} (h : Running s) (phase : s.phase = .compute) :
    PrefixConsumed s ∧ (s.op ≠ 1#4 → CursorAligned s) := by
  rcases h.op_cases with op | op | op | op
  · rw [running_iff_ref op] at h
    obtain ⟨-, hs | ⟨-, hpre⟩⟩ := h
    · simp [phase] at hs
    · exact ⟨hpre, absurd op⟩
  · rw [running_iff_fast op] at h
    obtain ⟨-, hs | ⟨-, hpre, hal⟩⟩ := h
    · simp [phase] at hs
    · exact ⟨hpre, fun _ => hal⟩
  · obtain ⟨-, -, -, -, hpre, hal⟩ := h.loop op phase
    exact ⟨hpre, fun _ => hal⟩
  · rw [running_iff_build op] at h
    simp [BuildRunning, phase] at h

/-- What the invariant says of a batch that waits for its join. -/
theorem Running.pool {s : State} (h : Running s) (op : s.op = 3#4) (phase : s.phase = .join) :
    LengthAdmitted s ∧ IterationsAdmitted s ∧ PoolRunning s := by
  rw [running_iff_batch op] at h
  obtain ⟨hlen, hiter, hs | ⟨-, ⟨hp, -⟩ | ⟨hp, -⟩⟩ | hpool⟩ := h
  · simp [phase] at hs
  · simp [phase] at hp
  · simp [phase] at hp
  · exact ⟨hlen, hiter, hpool⟩

/-- A cursor moved inside a computation leaves the command running. -/
theorem Running.moveCursor {s : State} (h : Running s) (phase : s.phase = .compute) (r : Crc15)
    (p : BitVec 7) (hpre : PrefixConsumed { s with reg := r, pos := p })
    (hal : s.op ≠ 1#4 → CursorAligned { s with reg := r, pos := p }) :
    Running { s with reg := r, pos := p } := by
  rcases h.op_cases with op | op | op | op
  · rw [running_iff_ref op] at h
    exact (running_iff_ref (s := { s with reg := r, pos := p }) op).2
      ⟨h.1, .inr ⟨phase, hpre⟩⟩
  · rw [running_iff_fast op] at h
    exact (running_iff_fast (s := { s with reg := r, pos := p }) op).2
      ⟨h.1, .inr ⟨phase, hpre, hal (by simp [op])⟩⟩
  · obtain ⟨hlen, hiter, path, hi, -⟩ := h.loop op phase
    exact (running_iff_batch (s := { s with reg := r, pos := p }) op).2
      ⟨hlen, hiter, .inr (.inl ⟨path, .inl ⟨phase, hi, hpre, hal (by simp [op])⟩⟩)⟩
  · rw [running_iff_build op] at h
    simp [BuildRunning, phase] at h

/-! ### The cursor and the register -/

theorem prefixConsumed_beginComputation (s : State) : PrefixConsumed (beginComputation s) := by
  simp [PrefixConsumed]

theorem cursorAligned_beginComputation (s : State) : CursorAligned (beginComputation s) := by
  simp [CursorAligned]

theorem pos_add_toNat (s : State) (d : BitVec 7) (h : s.pos.toNat + d.toNat ≤ s.len.toNat) :
    (s.pos + d).toNat = s.pos.toNat + d.toNat :=
  BitVec.toNat_add_of_lt (lt_of_le_of_lt h s.len.isLt)

theorem prefixConsumed_bitMicro (s : State) (h : PrefixConsumed s)
    (more : s.pos.toNat < s.len.toNat) : PrefixConsumed (bitMicro s) := by
  obtain ⟨-, hreg⟩ := h
  have hpos : (s.pos + 1#7).toNat = s.pos.toNat + 1 := pos_add_toNat s 1#7 more
  refine ⟨?_, ?_⟩
  · simp only [bitMicro_pos, bitMicro_len, hpos]
    exact more
  · simp only [bitMicro_pos, bitMicro_reg, bitMicro_sequence, hpos,
      sequence_take_succ s _ more, crcRef_snoc, hreg]

theorem cursorAligned_bitMicro (s : State) (h : CursorAligned s)
    (more : s.pos.toNat < s.len.toNat) (trailing : s.len.toNat < s.pos.toNat + 8) :
    CursorAligned (bitMicro s) := by
  have hpos : (s.pos + 1#7).toNat = s.pos.toNat + 1 := pos_add_toNat s 1#7 more
  simp only [CursorAligned, bitMicro_pos, bitMicro_len, hpos] at h ⊢
  omega

/-- While a whole byte is left, an aligned cursor stands at a byte boundary. -/
theorem CursorAligned.boundary {s : State} (h : CursorAligned s)
    (more : s.pos.toNat + 8 ≤ s.len.toNat) : 8 * (s.pos.toNat / 8) = s.pos.toNat := by
  unfold CursorAligned at h
  omega

theorem prefixConsumed_byteMicro (s : State) (h : PrefixConsumed s) (hal : CursorAligned s)
    (table : s.tbl = canonTable) (more : s.pos.toNat + 8 ≤ s.len.toNat) :
    PrefixConsumed (byteMicro s) := by
  obtain ⟨-, hreg⟩ := h
  have hpos : (s.pos + 8#7).toNat = s.pos.toNat + 8 := pos_add_toNat s 8#7 more
  have hbyte := byteStep_crcRef_take s.sequence (s.pos.toNat / 8)
  rw [hal.boundary more, ← hreg, ← table, sequence_length] at hbyte
  refine ⟨?_, ?_⟩
  · simp only [byteMicro_pos, byteMicro_len, hpos]
    exact more
  · simp only [byteMicro_pos, byteMicro_reg, byteMicro_sequence, hpos, hbyte more]

theorem cursorAligned_byteMicro (s : State) (h : CursorAligned s)
    (more : s.pos.toNat + 8 ≤ s.len.toNat) : CursorAligned (byteMicro s) := by
  have hpos : (s.pos + 8#7).toNat = s.pos.toNat + 8 := pos_add_toNat s 8#7 more
  have hb := h.boundary more
  simp only [CursorAligned, byteMicro_pos, byteMicro_len, hpos]
  omega

/-- A consumed sequence leaves its CRC in the register. -/
theorem PrefixConsumed.reg_of_consumed {s : State} (h : PrefixConsumed s)
    (consumed : s.len.toNat ≤ s.pos.toNat) : s.reg = crcRef s.sequence := by
  rw [h.2, List.take_of_length_le (by simpa using consumed)]

/-! ### The pool -/

theorem quota_pos (n w i : Nat) (hw : 1 ≤ w) (hle : w ≤ n) : 1 ≤ quota n w i :=
  le_add_right (Nat.div_pos hle hw)

theorem quota_le_succ (n w i : Nat) : quota n w i ≤ n + 1 := by
  unfold quota
  have := Nat.div_le_self n w
  split <;> omega

/-- The dispatch puts every worker at the beginning of its share. -/
theorem workerRunning_dispatchWorkers (s : State) (hiter : IterationsAdmitted s) (w : Nat)
    (k : Worker) (hk : (dispatchWorkers s).workers[w]? = some k) :
    WorkerRunning (dispatchWorkers s) w k := by
  obtain ⟨-, hmax⟩ := hiter
  simp only [dispatchWorkers_workers, List.getElem?_mapIdx, Option.map_eq_some_iff] at hk
  obtain ⟨k₀, -, rfl⟩ := hk
  have hlt : quota s.iter.toNat s.numWorkers w < 2 ^ 64 := by
    have := quota_le_succ s.iter.toNat s.numWorkers w
    unfold Config.iterMax at hmax
    omega
  refine ⟨?_, ?_, ?_, ?_⟩
  · simpa [assignQuota] using hlt
  all_goals simp [assignQuota]

theorem running_dispatchWorkers (s : State) (h : Running s) (op : s.op = 3#4)
    (path : Config.parThreshold ≤ s.iter.toNat) : Running (dispatchWorkers s) := by
  rw [running_iff_batch op] at h
  obtain ⟨hlen, hiter, -⟩ := h
  exact (running_iff_batch (s := dispatchWorkers s) op).2
    ⟨hlen, hiter, .inr (.inr ⟨path, rfl, workerRunning_dispatchWorkers s hiter⟩)⟩

/-- A worker's own elements are judged by the batch's input and by what stands in the slot. -/
theorem WorkerRunning.congr {s t : State} {w : Nat} {k : Worker} (h : WorkerRunning s w k)
    (hiter : t.iter = s.iter) (hpool : t.numWorkers = s.numWorkers)
    (hseq : t.sequence = s.sequence)
    (hslot : t.result = s.result ∨ t.result = crcWord (crcRef s.sequence)) :
    WorkerRunning t w k := by
  obtain ⟨hquota, hcount, hreg, hfin⟩ := h
  rw [WorkerRunning, hiter, hpool, hseq]
  refine ⟨hquota, hcount, hreg, fun hf => ⟨(hfin hf).1, ?_⟩⟩
  rcases hslot with he | he
  · rw [he, (hfin hf).2]
  · exact he

/-- One worker moved on, the slot kept or given the CRC, leaves the batch running. -/
theorem Running.setWorker {s : State} (h : Running s) (op : s.op = 3#4) (phase : s.phase = .join)
    (w : Nat) (k : Worker) (slot : BitVec 16)
    (hslot : slot = s.result ∨ slot = crcWord (crcRef s.sequence))
    (hk : WorkerRunning { s with result := slot } w k) :
    Running { s with result := slot, workers := s.workers.set w k } := by
  obtain ⟨hlen, hiter, hpath, -, hpool⟩ := h.pool op phase
  refine (running_iff_batch (s := { s with result := slot, workers := s.workers.set w k }) op).2
    ⟨hlen, hiter, .inr (.inr ⟨hpath, phase, fun v k' hk' => ?_⟩)⟩
  have hsize : (s.workers.set w k).length = s.workers.length := List.length_set
  by_cases hv : w = v
  · subst hv
    have hkk : k' = k := by
      have hlt := (List.getElem?_eq_some_iff.1 hk').1
      rw [hsize] at hlt
      simpa [hlt] using hk'.symm
    rw [hkk]
    exact hk.congr rfl hsize rfl (.inl rfl)
  · rw [List.getElem?_set_ne hv] at hk'
    exact (hpool v k' hk').congr rfl hsize rfl hslot

/-- An iteration takes a worker's count one further, with the CRC in its register. -/
theorem workerRunning_iterate (s : State) (w : Nat) (k : Worker) (h : WorkerRunning s w k)
    (table : s.tbl = canonTable) (hfin : k.fin = false) (hlt : k.count.toNat < k.quota.toNat) :
    WorkerRunning s w { k with reg := crcFast s.tbl s.sequence, count := k.count + 1#64 } := by
  obtain ⟨hquota, -, -, -⟩ := h
  have hcount : (k.count + 1#64).toNat = k.count.toNat + 1 :=
    BitVec.toNat_add_of_lt (lt_of_le_of_lt hlt k.quota.isLt)
  refine ⟨hquota, ?_, fun _ => ?_, ?_⟩
  · rw [hcount]
    exact hlt
  · rw [table, crcFast_canonTable]
  · simp [hfin]

/-- A worker that has done its share has a positive share, and the CRC in its register. -/
theorem workerRunning_spent (s : State) (w : Nat) (k : Worker) (h : WorkerRunning s w k)
    (hquota : 0 < quota s.iter.toNat s.numWorkers w) (hcount : k.count = k.quota) :
    0 < k.quota.toNat ∧ k.reg = crcRef s.sequence := by
  obtain ⟨hq, -, hreg, -⟩ := h
  have hpos : 0 < k.quota.toNat := by rwa [hq]
  exact ⟨hpos, hreg (by rwa [hcount])⟩

theorem running_iterationStep (s : State) (w : Nat) (k : Worker) (h : Running s) (op : s.op = 3#4)
    (phase : s.phase = .join) (table : s.tbl = canonTable) (hk : s.workers[w]? = some k)
    (hfin : k.fin = false) (hlt : k.count.toNat < k.quota.toNat) :
    Running (iterationStep w k s) := by
  obtain ⟨-, -, -, -, hpool⟩ := h.pool op phase
  exact h.setWorker op phase w _ s.result (.inl rfl)
    (workerRunning_iterate s w k (hpool w k hk) table hfin hlt)

theorem running_finalStep (s : State) (w : Nat) (k : Worker) (h : Running s) (op : s.op = 3#4)
    (phase : s.phase = .join) (size : 1 ≤ s.numWorkers ∧ s.numWorkers ≤ Config.maxWorkers)
    (hk : s.workers[w]? = some k) (hcount : k.count = k.quota) : Running (finalStep w k s) := by
  obtain ⟨-, -, hpath, -, hpool⟩ := h.pool op phase
  have hrun := hpool w k hk
  have hshare : 1 ≤ quota s.iter.toNat s.numWorkers w :=
    quota_pos _ _ _ size.1 (by unfold Config.parThreshold Config.maxWorkers at *; omega)
  obtain ⟨hpos, hreg⟩ := workerRunning_spent s w k hrun hshare hcount
  have hslot : (if 0 < k.quota.toNat then crcWord k.reg else s.result) =
      crcWord (crcRef s.sequence) := by
    rw [if_pos hpos, hreg]
  obtain ⟨hquota, hle, hcrc, -⟩ := hrun
  exact h.setWorker op phase w _ _ (.inr hslot) ⟨hquota, hle, hcrc, fun _ => ⟨hcount, hslot⟩⟩

/-! ### The invariant, step by step -/

/-- The invariant says nothing of `TBL_IDX`, of `ELAPSED`, or of the host and the schedule. -/
theorem Inv.outside {s : State} (h : Inv s) (el : BitVec 64) (ti : BitVec 8) (sc : List HostLine)
    (re : List Word) (ts : List Turn) (d : Nat) :
    Inv { s with
      elapsed := el, tblIdx := ti, script := sc, returned := re, turns := ts, draws := d } :=
  ⟨h.flags, h.errCode, h.resultTop, h.table, h.pool, h.running⟩

theorem Inv.takeTurn {s : State} (h : Inv s) : Inv (takeTurn s) := by
  unfold Machine.takeTurn
  split
  · exact h.outside ..
  · exact h.outside ..

/-- Inside a running command the outcome flags stand still, and the rest is `Running`. -/
theorem Inv.advance {s t : State} (h : Inv s) (hb : t.busy = s.busy) (hd : t.done = s.done)
    (he : t.err = s.err) (hc : t.errCode = s.errCode) (top : t.result.getLsbD 15 = false)
    (table : t.tbl = canonTable) (size : t.workers.length = s.workers.length)
    (running : Running t) : Inv t where
  flags := by rw [hb, hd, he]; exact h.flags
  errCode := by rw [he, hc]; exact h.errCode
  resultTop := top
  table := table
  pool := by rw [State.numWorkers, size]; exact h.pool
  running := fun _ => running

/-- A completion takes `BUSY` to `DONE` and may give `RESULT` and `ELAPSED` new values. -/
theorem Inv.completed {s : State} (h : Inv s) (busy : s.busy = true) (res : BitVec 16)
    (top : res.getLsbD 15 = false) (el : BitVec 64) (d : Nat) :
    Inv { s with busy := false, done := true, result := res, elapsed := el, draws := d } where
  flags := by
    obtain ⟨-, herr, -⟩ := h.flags
    simpa [busy] using herr
  errCode := h.errCode
  resultTop := top
  table := h.table
  pool := h.pool
  running := fun hb => absurd hb (by simp)

theorem crcWord_getLsbD_top (r : Crc15) : (crcWord r).getLsbD 15 = false := crcWord_top r

/-- A command begins from whatever stands in the input registers, once `Check` has passed. -/
theorem running_accept (c : Command) (s : State) (h : check c s = none) :
    Running (accept c.code (forgetOutcome s)) := by
  obtain ⟨hlen, hiter⟩ := (check_eq_none c s).1 h
  cases c
  · exact (running_iff_ref (s := accept _ _) rfl).2 ⟨hlen (by simp), .inl rfl⟩
  · exact (running_iff_fast (s := accept _ _) rfl).2 ⟨hlen (by simp), .inl rfl⟩
  · exact (running_iff_batch (s := accept _ _) rfl).2 ⟨hlen (by simp), hiter rfl, .inl rfl⟩
  · exact (running_iff_build (s := accept _ _) rfl).2 (.inl rfl)

theorem Inv.ctrlWrite {s : State} (h : Inv s) (op : BitVec 4) : Inv (ctrlWrite op s) := by
  rcases ctrlWrite_cases op s with ⟨-, he⟩ | ⟨hb, e, he⟩ | ⟨hb, c, rfl, hcheck, he⟩ <;> rw [he]
  · exact h
  · exact ⟨by simp [hb], by simp, h.resultTop, h.table, h.pool, by simp [hb]⟩
  · exact ⟨by simp, by simp, h.resultTop, h.table, h.pool, fun _ => running_accept c s hcheck⟩

theorem Inv.exec {s t : State} (h : Inv s) (i : Instr) (he : exec i s = .next t) : Inv t := by
  cases exec_effect i s t he with
  | observed r d => exact h.outside ..
  | command op => exact h.ctrlWrite op
  | input b l n idle =>
    exact ⟨h.flags, h.errCode, h.resultTop, h.table, h.pool, fun hb => by simp [idle] at hb⟩
  | index x => exact h.outside ..

/-- The first computation of a command starts with nothing consumed. -/
theorem running_beginComputation (s : State) (h : Running s) (op : s.op = 1#4 ∨ s.op = 2#4) :
    Running (beginComputation s) := by
  have hpre := prefixConsumed_beginComputation s
  rcases op with op | op
  · rw [running_iff_ref op] at h
    exact (running_iff_ref (s := beginComputation s) op).2 ⟨h.1, .inr ⟨rfl, hpre⟩⟩
  · rw [running_iff_fast op] at h
    exact (running_iff_fast (s := beginComputation s) op).2
      ⟨h.1, .inr ⟨rfl, hpre, cursorAligned_beginComputation s⟩⟩

/-- A computation of a batch starts with nothing consumed, while the count is below `ITER`. -/
theorem running_beginIteration (s : State) (n : BitVec 64) (op : s.op = 3#4)
    (hlen : LengthAdmitted s) (hiter : IterationsAdmitted s)
    (path : s.iter.toNat < Config.parThreshold) (hn : n.toNat < s.iter.toNat) :
    Running (beginComputation { s with icnt := n }) :=
  (running_iff_batch (s := beginComputation { s with icnt := n }) op).2
    ⟨hlen, hiter, .inr (.inl ⟨path, .inl ⟨rfl, hn, prefixConsumed_beginComputation _,
      cursorAligned_beginComputation _⟩⟩)⟩

theorem running_countComputation (s : State) (h : Running s) (op : s.op = 3#4)
    (phase : s.phase = .compute) (consumed : s.len.toNat ≤ s.pos.toNat) :
    Running (countComputation s) := by
  obtain ⟨hlen, hiter, path, hcount, hpre, -⟩ := h.loop op phase
  rcases countComputation_cases s with ⟨hn, he⟩ | ⟨hn, he⟩ <;> rw [he]
  · exact running_beginIteration s _ op hlen hiter path hn
  · have hsucc : (s.icnt + 1#64).toNat = s.icnt.toNat + 1 :=
      BitVec.toNat_add_of_lt (lt_of_le_of_lt hcount s.iter.isLt)
    have hall : s.icnt + 1#64 = s.iter := BitVec.eq_of_toNat_eq (by omega)
    exact (running_iff_batch (s := { s with icnt := s.icnt + 1#64, phase := .finish }) op).2
      ⟨hlen, hiter, .inr (.inl ⟨path, .inr ⟨rfl, hall, hpre.reg_of_consumed consumed⟩⟩)⟩

/-- Each step of ENG keeps the invariant: the working steps by `Inv.advance`, the completions by
`Inv.completed`. -/
theorem Inv.engine {s t : State} (h : Inv s) (busy : s.busy = true) (he : EngineEffect s t) :
    Inv t := by
  have hrun := h.running busy
  cases he with
  | start op phase =>
    exact h.advance rfl rfl rfl rfl h.resultTop h.table rfl (running_beginComputation s hrun op)
  | startLoop op phase path =>
    rw [running_iff_batch op] at hrun
    obtain ⟨hlen, hiter, -⟩ := hrun
    exact h.advance rfl rfl rfl rfl h.resultTop h.table rfl
      (running_beginIteration s 0#64 op hlen hiter path (lt_of_lt_of_le (by decide) hiter.1))
  | dispatch op phase path =>
    exact h.advance rfl rfl rfl rfl h.resultTop h.table (dispatchWorkers_numWorkers s)
      (running_dispatchWorkers s hrun op path)
  | bit op phase more trailing =>
    obtain ⟨hpre, hal⟩ := hrun.computing phase
    exact h.advance rfl rfl rfl rfl h.resultTop h.table rfl
      (hrun.moveCursor phase _ _ (prefixConsumed_bitMicro s hpre more)
        fun h1 => cursorAligned_bitMicro s (hal h1) more (trailing h1))
  | byte op phase more =>
    obtain ⟨hpre, hal⟩ := hrun.computing phase
    have hal := hal (by rcases op with op | op <;> simp [op])
    exact h.advance rfl rfl rfl rfl h.resultTop h.table rfl
      (hrun.moveCursor phase _ _ (prefixConsumed_byteMicro s hpre hal h.table more)
        fun _ => cursorAligned_byteMicro s hal more)
  | count op phase consumed =>
    have hcount := running_countComputation s hrun op phase consumed
    obtain ⟨r, p, n, ph, hc⟩ := countComputation_advance s
    rw [hc] at hcount ⊢
    exact h.advance rfl rfl rfl rfl h.resultTop h.table rfl hcount
  | result op phase consumed => exact h.completed busy _ (crcWord_getLsbD_top _) s.elapsed s.draws
  | endLoop op phase => exact h.completed busy _ (crcWord_getLsbD_top _) _ _
  | join op phase finished => exact h.completed busy _ h.resultTop _ _
  | fill op phase =>
    exact h.advance rfl rfl rfl rfl h.resultTop rfl rfl
      ((running_iff_build (s := { s with tbl := canonTable, phase := .finish }) op).2 (.inr rfl))
  | built op phase => exact h.completed busy _ h.resultTop s.elapsed s.draws

theorem Inv.engStep {s : State} (h : Inv s) : Inv (engStep s) := by
  rcases engStep_effect s with he | ⟨hb, he⟩
  · rwa [he]
  · exact h.engine hb he

theorem Inv.workerStep {s : State} (h : Inv s) (w : Nat) : Inv (workerStep w s) := by
  rcases workerStep_cases w s with he | ⟨k, hr, hk, hfin, ⟨hlt, he⟩ | ⟨hcount, he⟩⟩ <;> rw [he]
  · exact h
  · obtain ⟨busy, op, phase⟩ := (workersRun_iff s).1 hr
    exact h.advance rfl rfl rfl rfl h.resultTop h.table (iterationStep_numWorkers w k s)
      (running_iterationStep s w k (h.running busy) op phase h.table hk hfin hlt)
  · obtain ⟨busy, op, phase⟩ := (workersRun_iff s).1 hr
    have htop : (finalStep w k s).result.getLsbD 15 = false := by
      rw [finalStep_result]
      split
      · exact crcWord_getLsbD_top k.reg
      · exact h.resultTop
    exact h.advance rfl rfl rfl rfl htop h.table (finalStep_numWorkers w k s)
      (running_finalStep s w k (h.running busy) op phase h.pool hk hcount)

theorem inv_resetEvent (s : State) (h : Inv s) : Inv (resetEvent s) where
  flags := by simp
  errCode := by simp
  resultTop := by simp
  table := rfl
  pool := by rw [resetEvent_numWorkers]; exact h.pool
  running := by simp

/-- Settles O38: each of the six kinds of step keeps the invariant. -/
theorem stepKeepsTheInvariant : Obligations.StepKeepsTheInvariant := by
  intro s t h hstep
  have hturn := h.takeTurn
  cases step_effect s t hstep with
  | idle => exact hturn
  | transfer x rest t turn line run => exact (hturn.outside ..).exec _ run
  | poll ifDone rest turn line => exact hturn.outside ..
  | engine turn => exact hturn.engStep
  | worker w turn => exact hturn.workerStep w
  | reset turn => exact inv_resetEvent _ hturn

/-- Settles O37, with the bounds of the free pool size. -/
theorem resetMeetsTheInvariant : Obligations.ResetMeetsTheInvariant where
  flags := by decide
  errCode := rfl
  resultTop := rfl
  table := rfl
  pool := by
    have hw := Config.workersLessOne.isLt
    simp only [State.numWorkers, State.reset, List.length_replicate, Config.numWorkers,
      Config.maxWorkers]
    omega
  running := fun hb => absurd hb (by decide)

/-! ### The cells beyond `LEN` -/

theorem countComputation_withBits (s : State) (b : BitVec 96) :
    countComputation { s with bits := b } = { countComputation s with bits := b } := by
  unfold countComputation
  dsimp only
  split_ifs <;> rfl

theorem tblBuildStep_withBits (s : State) (b : BitVec 96) :
    tblBuildStep { s with bits := b } = { tblBuildStep s with bits := b } := by
  unfold tblBuildStep
  dsimp only
  split <;> rfl

section CellsBeyondLen

variable {s : State} {b : BitVec 96} (same : ∀ i < s.len.toNat, cellOf b i = cellOf s.bits i)
include same

theorem sequence_withBits : ({ s with bits := b } : State).sequence = s.sequence :=
  sequence_congr s { s with bits := b } rfl same

theorem byteMicro_withBits : byteMicro { s with bits := b } = { byteMicro s with bits := b } := by
  simp only [byteMicro, sequence_withBits same]

theorem bitMicro_withBits (more : s.pos.toNat < s.len.toNat) :
    bitMicro { s with bits := b } = { bitMicro s with bits := b } := by
  simp only [bitMicro, same _ more]

theorem fastBody_withBits (after : State → State)
    (h : after { s with bits := b } = { after s with bits := b }) :
    fastBody after { s with bits := b } = { fastBody after s with bits := b } := by
  unfold fastBody
  dsimp only
  split_ifs with hbyte hbit
  · exact byteMicro_withBits same
  · exact bitMicro_withBits same hbit
  · exact h

theorem crcRefStep_withBits :
    crcRefStep { s with bits := b } = { crcRefStep s with bits := b } := by
  unfold crcRefStep
  dsimp only
  split
  case h_2 =>
    split_ifs with hm
    · exact bitMicro_withBits same hm
    · rfl
  all_goals rfl

theorem crcFastStep_withBits :
    crcFastStep { s with bits := b } = { crcFastStep s with bits := b } := by
  unfold crcFastStep
  dsimp only
  split
  case h_2 => exact fastBody_withBits same _ rfl
  all_goals rfl

theorem runBatchStep_withBits :
    runBatchStep { s with bits := b } = { runBatchStep s with bits := b } := by
  unfold runBatchStep
  dsimp only
  split
  case h_1 => split <;> rfl
  case h_2 => exact fastBody_withBits same _ (countComputation_withBits s b)
  case h_3 => rfl
  case h_4 =>
    have hall : allFinished { s with bits := b } = allFinished s := rfl
    rw [hall]
    split_ifs <;> rfl

theorem engStep_withBits : engStep { s with bits := b } = { engStep s with bits := b } := by
  unfold engStep
  dsimp only
  split_ifs
  · split
    · exact crcRefStep_withBits same
    · exact crcFastStep_withBits same
    · exact runBatchStep_withBits same
    · exact tblBuildStep_withBits s b
    · rfl
  · rfl

theorem iterationStep_withBits (w : Nat) (k : Worker) :
    iterationStep w k { s with bits := b } = { iterationStep w k s with bits := b } := by
  simp only [iterationStep, sequence_withBits same]

theorem workerStep_withBits (w : Nat) :
    workerStep w { s with bits := b } = { workerStep w s with bits := b } := by
  have hrun : workersRun { s with bits := b } = workersRun s := rfl
  unfold workerStep
  rw [hrun]
  dsimp only
  split_ifs
  · split
    · rfl
    · split_ifs
      · rfl
      · exact iterationStep_withBits same _ _
      · rfl
      · rfl
  · rfl

end CellsBeyondLen

/-- Settles O47: a step reads the cells through the sequence, or at a cursor below `LEN`. -/
theorem cellsBeyondLenIgnored : Obligations.CellsBeyondLenIgnored :=
  fun _ _ same => ⟨engStep_withBits same, workerStep_withBits same⟩

/-! ### Who writes what -/

theorem step_of_eng {s t : State} (h : step s = .next t) (turn : nextTurn s = .eng) :
    t = engStep (takeTurn s) := by
  simpa [step, turn] using h.symm

theorem step_of_wrk {s t : State} {w : Nat} (h : step s = .next t) (turn : nextTurn s = .wrk w) :
    t = workerStep w (takeTurn s) := by
  simpa [step, turn] using h.symm

theorem step_of_reset {s t : State} (h : step s = .next t) (turn : nextTurn s = .reset) :
    t = resetEvent (takeTurn s) := by
  simpa [step, turn] using h.symm

/-- A turn of the host changes nothing behind the boundary. -/
theorem step_host_sameBehindBoundary (s t : State) (h : step s = .next t)
    (turn : nextTurn s = .host) : SameBehindBoundary s t := by
  have htake := takeTurn_sameBehindBoundary s
  cases step_effect s t h with
  | idle => exact htake (takeTurn s).script
  | transfer x rest t _ line run => exact (htake rest).trans (exec_sameBehindBoundary _ _ _ run)
  | poll ifDone rest =>
    obtain ⟨hreg, hpos, hicnt, hworkers, hresult, helapsed⟩ := htake (afterPoll s ifDone rest)
    exact ⟨hreg, hpos, hicnt, hworkers, hresult, helapsed⟩
  | engine turn' | worker _ turn' | reset turn' => simp [turn] at turn'

/-- A step of a worker changes no other worker. -/
theorem workerStep_getElem?_ne (v w : Nat) (s : State) (h : v ≠ w) :
    (workerStep w s).workers[v]? = s.workers[v]? := by
  rcases workerStep_cases w s with he | ⟨k, -, -, -, ⟨-, he⟩ | ⟨-, he⟩⟩ <;> rw [he]
  · exact List.getElem?_set_ne h.symm
  · exact List.getElem?_set_ne h.symm

/-- Among the steps of ENG only the dispatch of a parallel batch writes to the workers. -/
theorem engStep_workers (s : State)
    (h : ¬ (s.busy = true ∧ s.op = 3#4 ∧ s.phase = .start ∧ Config.parThreshold ≤ s.iter.toNat)) :
    (engStep s).workers = s.workers := by
  rcases engStep_effect s with he | ⟨busy, he⟩
  · rw [he]
  generalize engStep s = t at he
  cases he with
  | dispatch op phase path => exact absurd ⟨busy, op, phase, path⟩ h
  | count =>
    obtain ⟨r, p, n, ph, hc⟩ := countComputation_advance s
    rw [hc]
  | _ => rfl

/-- Settles O51: the turn says which agent stepped, and each agent keeps what is not its own. -/
theorem engineElementsArePrivate : Obligations.EngineElementsArePrivate := by
  intro s t h
  cases turn : nextTurn s with
  | host =>
    have same := step_host_sameBehindBoundary s t h turn
    exact ⟨fun _ _ => ⟨same.reg, same.pos, same.icnt⟩, fun _ => same.workers, by simp, by simp,
      congrArg List.length same.workers⟩
  | eng =>
    cases step_of_eng h turn
    refine ⟨by simp, by simp, by simp, fun _ hd => ?_, ?_⟩
    · rw [engStep_workers _ (by simpa [Config.parThreshold] using hd), takeTurn_workers]
    · exact (engStep_numWorkers _).trans (takeTurn_numWorkers s)
  | wrk w =>
    cases step_of_wrk h turn
    refine ⟨fun _ _ => by simp, by simp, fun w' hw v hv => ?_, by simp, ?_⟩
    · cases hw
      rw [workerStep_getElem?_ne v w _ hv, takeTurn_workers]
    · exact (workerStep_numWorkers w _).trans (takeTurn_numWorkers s)
  | reset =>
    cases step_of_reset h turn
    exact ⟨by simp, by simp, by simp, by simp,
      (resetEvent_numWorkers _).trans (takeTurn_numWorkers s)⟩

/-- A step of ENG keeps the outcome, or it completes the command. -/
theorem engStep_outcome (s : State) :
    ((engStep s).busy = s.busy ∧ (engStep s).done = s.done ∧ (engStep s).elapsed = s.elapsed ∧
      (engStep s).result = s.result) ∨
    (s.busy = true ∧ (engStep s).busy = false ∧ (engStep s).done = true ∧
      ((engStep s).elapsed ≠ s.elapsed → s.op = 3#4) ∧
      ((engStep s).result ≠ s.result → s.op ∈ [1#4, 2#4, 3#4])) := by
  rcases engStep_effect s with he | ⟨busy, he⟩
  · rw [he]
    exact .inl ⟨rfl, rfl, rfl, rfl⟩
  generalize engStep s = t at he
  cases he with
  | start | startLoop | dispatch | bit | byte | fill => exact .inl ⟨rfl, rfl, rfl, rfl⟩
  | count =>
    obtain ⟨r, p, n, ph, hc⟩ := countComputation_advance s
    rw [hc]
    exact .inl ⟨rfl, rfl, rfl, rfl⟩
  | result op =>
    exact .inr ⟨busy, rfl, rfl, absurd rfl, fun _ => by rcases op with op | op <;> simp [op]⟩
  | endLoop op | join op => exact .inr ⟨busy, rfl, rfl, fun _ => op, fun _ => by simp [op]⟩
  | built => exact .inr ⟨busy, rfl, rfl, absurd rfl, absurd rfl⟩

/-- A worker writes the result slot only while a batch runs. -/
theorem workerStep_result (w : Nat) (s : State) (h : (workerStep w s).result ≠ s.result) :
    s.busy = true ∧ s.op = 3#4 := by
  rcases workerStep_cases w s with he | ⟨k, hrun, -⟩
  · exact absurd (congrArg State.result he) h
  · obtain ⟨busy, op, -⟩ := (workersRun_iff s).1 hrun
    exact ⟨busy, op⟩

/-- Settles O50: ENG writes at a completion, a worker in a running batch, the host never. -/
theorem outputsWrittenOnlyByTheirWriters : Obligations.OutputsWrittenOnlyByTheirWriters := by
  intro s t h
  cases turn : nextTurn s with
  | host =>
    have same := step_host_sameBehindBoundary s t h turn
    exact ⟨absurd same.elapsed, absurd same.result⟩
  | eng =>
    cases step_of_eng h turn
    rcases engStep_outcome (takeTurn s) with ⟨-, -, hel, hres⟩ | ⟨hb, hb', hd', hel, hres⟩
    · exact ⟨absurd (by simpa using hel), absurd (by simpa using hres)⟩
    · simp only [takeTurn_busy, takeTurn_op, takeTurn_elapsed, takeTurn_result] at hb hel hres
      exact ⟨fun hne => .inr ⟨rfl, hb, hel hne, hb', hd'⟩, fun hne => .inr ⟨rfl, hb, hres hne⟩⟩
  | wrk w =>
    cases step_of_wrk h turn
    refine ⟨absurd (by simp), fun hne => .inr ⟨rfl, ?_⟩⟩
    have hrun := workerStep_result w (takeTurn s) (by simpa using hne)
    simp only [takeTurn_busy, takeTurn_op] at hrun
    exact ⟨hrun.1, by simp [hrun.2]⟩
  | reset => exact ⟨fun _ => .inl rfl, fun _ => .inl rfl⟩

/-- A `CTRL` write while busy keeps the outcome, and while idle it forgets `DONE`. -/
theorem ctrlWrite_outcome (op : BitVec 4) (s : State) :
    ctrlWrite op s = s ∨ (s.busy = false ∧ (ctrlWrite op s).done = false) := by
  rcases ctrlWrite_cases op s with ⟨-, h⟩ | ⟨hb, e, h⟩ | ⟨hb, c, -, -, h⟩
  · exact .inl h
  · exact .inr ⟨hb, by simp [h]⟩
  · exact .inr ⟨hb, by simp [h]⟩

/-- A turn of the host keeps the outcome, or it is a `CTRL` write made while idle. -/
theorem step_host_outcome (s t : State) (h : step s = .next t) (turn : nextTurn s = .host) :
    (t.done = s.done ∧ t.err = s.err ∧ t.errCode = s.errCode) ∨
    (s.busy = false ∧ t.done = false ∧ ∃ (x : Txn) (rest : List HostLine),
      s.script = .xfer x :: rest ∧ x.dir = .write ∧ x.off = 0x00#8) := by
  cases step_effect s t h with
  | idle => simp
  | poll ifDone rest => simp
  | transfer x rest t _ line run =>
    rcases exec_ctrl_or_quiet x _ t run with ⟨hdir, hoff, rfl⟩ | ⟨-, hd, he, hc, -⟩
    · rcases ctrlWrite_outcome (x.data.extractLsb' 0 4) { takeTurn s with script := rest } with
        hsame | ⟨hb, hd⟩
      · rw [hsame]
        simp
      · exact .inr ⟨by simpa using hb, hd, x, rest, line, hdir, hoff⟩
    · exact .inl (by simp [hd, he, hc])
  | engine turn' | worker _ turn' | reset turn' => simp [turn] at turn'

/-- Settles O48: a completion by ENG, a `CTRL` write while idle, or Reset. -/
theorem outcomeFlagsHold : Obligations.OutcomeFlagsHold := by
  intro s t inv h changed
  have moved (hd : t.done = s.done) (he : t.err = s.err) (hc : t.errCode = s.errCode) : False := by
    simp [hd, he, hc] at changed
  cases turn : nextTurn s with
  | host =>
    rcases step_host_outcome s t h turn with ⟨hd, he, hc⟩ | ⟨hb, hd, hline⟩
    · exact (moved hd he hc).elim
    · exact .inr (.inr ⟨rfl, hb, hd, hline⟩)
  | eng =>
    cases step_of_eng h turn
    rcases engStep_outcome (takeTurn s) with ⟨-, hd, -⟩ | ⟨hb, hb', hd', -⟩
    · exact (moved (by simpa using hd) (by simp) (by simp)).elim
    · rw [takeTurn_busy] at hb
      obtain ⟨hdone, -⟩ := inv.flags
      exact .inr (.inl ⟨rfl, hb, by simpa [hb] using hdone, hd', hb', by simp, by simp⟩)
  | wrk w =>
    cases step_of_wrk h turn
    exact (moved (by simp) (by simp) (by simp)).elim
  | reset => exact .inl rfl

/-- Settles O54: the reset state's elements, and those the event leaves. -/
theorem resetForcesTheResetState : Obligations.ResetForcesTheResetState := by
  have reset_of_mem (n : Nat) (k : Worker) (hk : k ∈ List.replicate n Worker.reset) :
      k = Worker.reset := (List.mem_replicate.1 hk).2
  constructor
  · rintro t rfl
    exact ⟨rfl, rfl, rfl, rfl, rfl, rfl, rfl, rfl, rfl, rfl, rfl, rfl, rfl, rfl,
      List.length_replicate, reset_of_mem _, tableAt_canonTable⟩
  · intro s turn
    refine ⟨resetEvent (takeTurn s), by simp [step, turn], ?_⟩
    exact ⟨rfl, rfl, rfl, rfl, rfl, rfl, rfl, rfl, rfl, rfl, rfl, rfl, rfl, rfl,
      (resetEvent_numWorkers _).trans (takeTurn_numWorkers s), reset_of_mem _, tableAt_canonTable,
      takeTurn_script s, takeTurn_returned s⟩

end Sys2Proof.Machine

/-! ## The register space: what a transaction does, and the race on the result slot -/

namespace Sys2Proof

/-! ### Which transactions have a meaning -/

/-- A misaligned word is decoded as one of the two misaligned classes, whatever its direction. -/
theorem decode_misaligned (x : Txn) (h : x.off.toNat % 4 ≠ 0) :
    decode x = .misalignedOdd x.dir x.off (x.dir.keeps x.data) ∨
    decode x = .misalignedHalf x.dir x.off (x.dir.keeps x.data) := by
  unfold decode
  split_ifs with odd half
  · exact .inl rfl
  · exact .inr rfl
  · exact absurd ((aligned_iff x.off).2 ⟨by simpa using odd, by simpa using half⟩) h

theorem decode_aligned_read (x : Txn) (h : x.off.toNat % 4 = 0) (dir : x.dir = .read) :
    decode x = decodeRead x.off := by
  obtain ⟨b0, b1⟩ := (aligned_iff x.off).1 h
  simp [decode, dir, b0, b1]

theorem decode_aligned_write (x : Txn) (h : x.off.toNat % 4 = 0) (dir : x.dir = .write) :
    decode x = decodeWrite x.off x.data := by
  obtain ⟨b0, b1⟩ := (aligned_iff x.off).1 h
  simp [decode, dir, b0, b1]

end Sys2Proof

namespace Sys2Proof.Machine

/-- A read delivers one word, and a draw only for `CRC` while busy (R141 to R143, R155 to R160). -/
theorem exec_decodeRead (off : Offset) (s : State) :
    (∃ v, exec (decodeRead off) s = .next (deliver v s)) ∨
    (off = Reg.crc.offset ∧ s.busy = true ∧ exec (decodeRead off) s = .next (deliverDraw s)) := by
  unfold decodeRead
  split
  case h_9 hreg =>
    cases hb : s.busy
    · exact .inl ⟨s.result.setWidth 32, by simp [exec, execRdCrc, hb]⟩
    · exact .inr ⟨regAt_eq_some off .crc hreg, rfl, by simp [exec, execRdCrc, hb]⟩
  case h_15 => split_ifs <;> exact .inl ⟨_, rfl⟩
  all_goals exact .inl ⟨_, rfl⟩

theorem exec_decodeWrite (off : Offset) (data : Word) (s : State) :
    ∃ t, exec (decodeWrite off data) s = .next t := by
  unfold decodeWrite
  split
  case h_1 =>
    unfold decodeCommand
    dsimp only
    split <;> exact ⟨_, rfl⟩
  case h_15 => split_ifs <;> exact ⟨_, rfl⟩
  all_goals exact ⟨_, rfl⟩

/-- Settles O22: both misaligned classes are refused, and no aligned read or write is. -/
theorem misalignedRefused : Obligations.MisalignedRefused := by
  intro x s
  constructor
  · intro misaligned
    rcases decode_misaligned x misaligned with h | h <;> rw [h] <;> rfl
  · intro aligned
    cases dir : x.dir with
    | read =>
      rw [decode_aligned_read x aligned dir]
      rcases exec_decodeRead x.off s with ⟨v, h⟩ | ⟨-, -, h⟩
      · exact ⟨_, h⟩
      · exact ⟨_, h⟩
    | write =>
      rw [decode_aligned_write x aligned dir]
      exact exec_decodeWrite x.off x.data s

/-- Settles O52: a read delivers a word or a draw, and the draw is that of a busy `CRC`. -/
theorem noReadHasASideEffect : Obligations.NoReadHasASideEffect := by
  intro x s dir aligned
  rw [decode_aligned_read x aligned dir]
  rcases exec_decodeRead x.off s with ⟨v, h⟩ | ⟨hoff, busy, h⟩
  · exact ⟨v, s.draws, h, .inl rfl⟩
  · exact ⟨_, s.draws + 1, h, .inr ⟨rfl, busy, hoff⟩⟩

/-! ### The input of a running command -/

/-- The elements a running command is computed from, and its latched code. -/
structure SameInput (s t : State) : Prop where
  bits : t.bits = s.bits
  len : t.len = s.len
  iter : t.iter = s.iter
  op : t.op = s.op

theorem SameInput.trans {s t u : State} (h : SameInput s t) (h' : SameInput t u) : SameInput s u :=
  ⟨h'.bits.trans h.bits, h'.len.trans h.len, h'.iter.trans h.iter, h'.op.trans h.op⟩

theorem takeTurn_sameInput (s : State) (script : List HostLine) :
    SameInput s { takeTurn s with script := script } :=
  ⟨takeTurn_bits s, takeTurn_len s, takeTurn_iter s, takeTurn_op s⟩

theorem ctrlWrite_busy (op : BitVec 4) (s : State) (busy : s.busy = true) : ctrlWrite op s = s := by
  simp [ctrlWrite, busy]

/-- No transaction writes the input of a running command (20_memory.md R44, R47). -/
theorem exec_sameInput_of_busy (i : Instr) (s t : State) (busy : s.busy = true)
    (h : exec i s = .next t) : SameInput s t := by
  cases exec_effect i s t h with
  | observed | index => exact ⟨rfl, rfl, rfl, rfl⟩
  | command op =>
    rw [ctrlWrite_busy op s busy]
    exact ⟨rfl, rfl, rfl, rfl⟩
  | input _ _ _ idle => simp [busy] at idle

theorem engStep_sameInput (s : State) : SameInput s (engStep s) :=
  ⟨engStep_bits s, engStep_len s, engStep_iter s, engStep_op s⟩

theorem workerStep_sameInput (w : Nat) (s : State) : SameInput s (workerStep w s) :=
  ⟨workerStep_bits w s, workerStep_len w s, workerStep_iter w s, workerStep_op w s⟩

/-- Of the six kinds of step, only Reset writes the input of a running command. -/
theorem step_sameInput_of_busy (s t : State) (busy : s.busy = true) (h : step s = .next t)
    (noReset : nextTurn s ≠ .reset) : SameInput s t := by
  have htake := takeTurn_sameInput s
  cases step_effect s t h with
  | idle => exact htake (takeTurn s).script
  | transfer x rest t _ _ run =>
    have hbusy : ({ takeTurn s with script := rest } : State).busy = true := by simpa using busy
    exact (htake rest).trans (exec_sameInput_of_busy _ _ t hbusy run)
  | poll ifDone rest =>
    obtain ⟨hbits, hlen, hiter, hop⟩ := htake (afterPoll s ifDone rest)
    exact ⟨hbits, hlen, hiter, hop⟩
  | engine => exact (htake (takeTurn s).script).trans (engStep_sameInput _)
  | worker w => exact (htake (takeTurn s).script).trans (workerStep_sameInput w _)
  | reset turn => exact absurd turn noReset

/-- Settles O46, kind of step by kind of step. -/
theorem inputStableWhileBusy : Obligations.InputStableWhileBusy := by
  intro s t busy noReset h
  obtain ⟨hbits, hlen, hiter, hop⟩ := step_sameInput_of_busy s t busy h noReset
  exact ⟨hbits, hlen, hiter, hop⟩

/-! ### The race on the result slot

Under the invariant every write to the slot is a write of the same value, the CRC of the batch's
sequence. A worker's turn is therefore a change of its own elements and, at its final step, a write of
that one value: `poolTurn`. Two such turns commute in every state. -/

/-- A worker's own elements after its turn; `crc` is the batch's CRC (43_batch_runner.md R126). -/
def Worker.turn (crc : Crc15) (k : Worker) : Worker :=
  if k.fin then k
  else if k.count.toNat < k.quota.toNat then { k with reg := crc, count := k.count + 1#64 }
  else if k.count = k.quota then { k with fin := true }
  else k

/-- Whether a worker's turn is its final step, the one that writes the slot. -/
def Worker.atFinalStep (k : Worker) : Bool :=
  !k.fin && k.count == k.quota

/-- The turn of worker `w` in a batch all of whose workers compute the CRC of its sequence. -/
def poolTurn (w : Nat) (s : State) : State :=
  { s with
    workers := s.workers.modify w (Worker.turn (crcRef s.sequence))
    result := if s.workers[w]?.any Worker.atFinalStep then crcWord (crcRef s.sequence)
      else s.result }

theorem poolTurn_comm (v w : Nat) (s : State) (h : v ≠ w) :
    poolTurn v (poolTurn w s) = poolTurn w (poolTurn v s) := by
  have sameSlot (p q : Bool) (c old : BitVec 16) :
      (if p then c else if q then c else old) = if q then c else if p then c else old := by
    cases p <;> cases q <;> rfl
  simp only [poolTurn, State.sequence, List.getElem?_modify_ne _ _ h,
    List.getElem?_modify_ne _ _ h.symm, List.modify_modify_ne _ _ _ h]
  rw [sameSlot]

theorem poolTurn_of_absent (w : Nat) (s : State) (hk : s.workers[w]? = none) :
    poolTurn w s = s := by
  simp [poolTurn, hk, List.modify_eq_self (List.getElem?_eq_none_iff.1 hk)]

theorem poolTurn_of_present (w : Nat) (s : State) (k : Worker) (hk : s.workers[w]? = some k) :
    poolTurn w s = { s with
      workers := s.workers.set w (k.turn (crcRef s.sequence))
      result := if k.atFinalStep then crcWord (crcRef s.sequence) else s.result } := by
  simp [poolTurn, hk, List.modify_eq_set_getElem?]

/-- A worker with no step of its own left lets its turn pass. -/
theorem poolTurn_of_resting (w : Nat) (s : State) (k : Worker) (hk : s.workers[w]? = some k)
    (hturn : k.turn (crcRef s.sequence) = k) (hstep : k.atFinalStep = false) :
    poolTurn w s = s := by
  obtain ⟨hlt, rfl⟩ := List.getElem?_eq_some_iff.1 hk
  simp [poolTurn_of_present w s _ hk, hturn, hstep]

/-- Whatever value the final step writes to the slot or leaves there, it is the batch's CRC. -/
theorem finalStep_result_eq_crc {s : State} (h : Inv s) (run : workersRun s = true) {w : Nat}
    {k : Worker} (hk : s.workers[w]? = some k) (hcount : k.count = k.quota) :
    (finalStep w k s).result = crcWord (crcRef s.sequence) := by
  obtain ⟨busy, op, phase⟩ := (workersRun_iff s).1 run
  have hrun := running_finalStep s w k (h.running busy) op phase h.pool hk hcount
  obtain ⟨-, -, -, -, hpool⟩ := hrun.pool op phase
  have hlt := (List.getElem?_eq_some_iff.1 hk).1
  obtain ⟨-, -, -, hfin⟩ := hpool w { k with fin := true } (by simp [hlt])
  exact (hfin rfl).2

/-- Under the invariant a worker's step is a turn of the pool. -/
theorem workerStep_eq_poolTurn {s : State} (h : Inv s) (run : workersRun s = true) (w : Nat) :
    workerStep w s = poolTurn w s := by
  unfold workerStep
  rw [if_pos run]
  cases hk : s.workers[w]? with
  | none => exact (poolTurn_of_absent w s hk).symm
  | some k =>
    dsimp only
    split_ifs with hfin hlt hcount
    · exact (poolTurn_of_resting w s k hk (by simp [Worker.turn, hfin])
        (by simp [Worker.atFinalStep, hfin])).symm
    · have hne : k.count ≠ k.quota := fun he => hlt.ne (congrArg BitVec.toNat he)
      simp [poolTurn_of_present w s k hk, Worker.turn, Worker.atFinalStep, hfin, hlt, hne,
        iterationStep, h.table, crcFast_canonTable]
    · have hslot := finalStep_result_eq_crc h run hk hcount
      rw [finalStep_result] at hslot
      simp [poolTurn_of_present w s k hk, Worker.turn, Worker.atFinalStep, hfin, hcount,
        finalStep, ← hslot]
    · exact (poolTurn_of_resting w s k hk (by simp [Worker.turn, hlt, hcount])
        (by simp [Worker.atFinalStep, hcount])).symm

theorem workersRun_workerStep (w : Nat) (s : State) :
    workersRun (workerStep w s) = workersRun s := by
  simp [workersRun]

theorem workerStep_of_not_workersRun (w : Nat) (s : State) (h : workersRun s = false) :
    workerStep w s = s := by
  simp [workerStep, h]

/-- Settles O36: both orders are the same two turns of the pool. -/
theorem workersCommute : Obligations.WorkersCommute := by
  intro s v w inv hne
  cases run : workersRun s with
  | false => simp only [workerStep_of_not_workersRun _ _ run]
  | true =>
    have after (u : Nat) : workersRun (workerStep u s) = true := by rwa [workersRun_workerStep]
    calc workerStep v (workerStep w s)
        = poolTurn v (poolTurn w s) := by
          rw [workerStep_eq_poolTurn (inv.workerStep w) (after w), workerStep_eq_poolTurn inv run]
      _ = poolTurn w (poolTurn v s) := poolTurn_comm v w s hne
      _ = workerStep w (workerStep v s) := by
          rw [workerStep_eq_poolTurn (inv.workerStep v) (after v), workerStep_eq_poolTurn inv run]

end Sys2Proof.Machine

/-! ## The encoding: the transaction word, the rows of the opcode table, and the word `STATUS` -/

namespace Sys2Proof

/-! ### Decode undoes encode -/

theorem decode_command (ig : BitVec 28) (c : BitVec 4) :
    decode (Txn.mk .write Reg.ctrl.offset (ctrlData ig c)) = decodeCommand (ctrlData ig c) :=
  decode_write .ctrl _

/-- Settles O1: a command, a register, a reserved class and a misaligned class each for its reason. -/
theorem decodeUndoesEncode : Obligations.DecodeUndoesEncode := by
  intro i h
  cases i
  case reservedOp0 ig | crcRef ig | crcFast ig | runBatch ig | tblBuild ig | reservedOp5 ig
      | reservedOp6 ig | reservedOp7 ig | reservedOp8 ig | reservedOp9 ig | reservedOpA ig
      | reservedOpB ig | reservedOpC ig | reservedOpD ig | reservedOpE ig | reservedOpF ig =>
    refine (decode_command ig _).trans ?_
    simp only [decodeCommand, code_ctrlData, ignored_ctrlData]
    rfl
  case rdReserved38 off | wrReserved38 off _ =>
    obtain ⟨b0, b1, unmapped, lt⟩ := class38_spec off h
    simp [encode, decode, decodeRead, decodeWrite, b0, b1, unmapped, lt]
  case rdReserved40 off | wrReserved40 off _ =>
    obtain ⟨b0, b1, unmapped, ge, lt⟩ := class40_spec off h
    simp [encode, decode, decodeRead, decodeWrite, b0, b1, unmapped, ge, lt]
  case rdReserved80 off | wrReserved80 off _ =>
    obtain ⟨b0, b1, unmapped, ge, ge'⟩ := class80_spec off h
    simp [encode, decode, decodeRead, decodeWrite, b0, b1, unmapped, ge, ge']
  case misalignedOdd dir off data =>
    obtain ⟨odd, admits⟩ := Bool.and_eq_true_iff.1 h
    simp [encode, decode, (classOdd_spec off).1 odd, keeps_of_admits dir data admits]
  case misalignedHalf dir off data =>
    obtain ⟨half, admits⟩ := Bool.and_eq_true_iff.1 h
    obtain ⟨b0, b1⟩ := (classHalf_spec off).1 half
    simp [encode, decode, b0, b1, keeps_of_admits dir data admits]
  all_goals simp [encode, decode_read, decode_write, decodeRead, decodeWrite]

/-! ### What a word is decoded as -/

/-- The instruction is one that stands for the word with these fields, and its row covers the word. -/
structure StandsFor (i : Instr) (d : Dir) (o : Offset) (v : Word) : Prop where
  wellFormed : WellFormed i
  encode : encode i = Txn.mk d o (d.keeps v)
  covers : i.row.covers (Txn.mk d o v) = true

theorem decodeCommand_standsFor (v : Word) :
    StandsFor (decodeCommand v) .write Reg.ctrl.offset v := by
  rw [← ctrlData_fields v]
  generalize v.extractLsb' 4 28 = ig
  obtain ⟨k⟩ := v.extractLsb' 0 4
  simp only [decodeCommand, code_ctrlData, ignored_ctrlData]
  fin_cases k <;> exact ⟨rfl, rfl, covers_command _ ig _⟩

/-- At an aligned offset without a register, one class after the other (20_memory.md R38). -/
theorem unmapped_standsFor (o : Offset) (v : Word) (b0 : o[0] = false) (b1 : o[1] = false)
    (unmapped : regAt o = none) :
    StandsFor (decodeRead o) .read o v ∧ StandsFor (decodeWrite o v) .write o v := by
  have hclass := reserved_class o b0 b1 unmapped
  simp only [decodeRead, decodeWrite, unmapped]
  split_ifs at hclass ⊢
  · have masked := class38_masked o hclass
    exact ⟨⟨hclass, rfl, covers_reserved _ .read _ _ _ v masked⟩,
      ⟨hclass, rfl, covers_reserved _ .write _ _ _ v masked⟩⟩
  · have masked := class40_masked o hclass
    exact ⟨⟨hclass, rfl, covers_reserved _ .read _ _ _ v masked⟩,
      ⟨hclass, rfl, covers_reserved _ .write _ _ _ v masked⟩⟩
  · have masked := class80_masked o hclass
    exact ⟨⟨hclass, rfl, covers_reserved _ .read _ _ _ v masked⟩,
      ⟨hclass, rfl, covers_reserved _ .write _ _ _ v masked⟩⟩

theorem decodeRead_standsFor (o : Offset) (v : Word) (b0 : o[0] = false) (b1 : o[1] = false) :
    StandsFor (decodeRead o) .read o v := by
  cases at_o : regAt o with
  | none => exact (unmapped_standsFor o v b0 b1 at_o).1
  | some r =>
    obtain rfl := regAt_eq_some o r at_o
    cases r <;> exact ⟨rfl, rfl, covers_register _ .read _ v⟩

theorem decodeWrite_standsFor (o : Offset) (v : Word) (b0 : o[0] = false) (b1 : o[1] = false) :
    StandsFor (decodeWrite o v) .write o v := by
  cases at_o : regAt o with
  | none => exact (unmapped_standsFor o v b0 b1 at_o).2
  | some r =>
    obtain rfl := regAt_eq_some o r at_o
    cases r
    case ctrl => exact decodeCommand_standsFor v
    all_goals exact ⟨rfl, rfl, covers_register _ .write _ v⟩

/-- A datum is admitted once what the direction ignores is put to 0 (30_encoding.md R50). -/
theorem admits_keeps (d : Dir) (v : Word) : d.admits (d.keeps v) = true := by
  cases d <;> rfl

theorem decode_standsFor (x : Txn) : StandsFor (decode x) x.dir x.off x.data := by
  unfold decode
  split_ifs with odd half
  · have hclass := (classOdd_spec x.off).2 odd
    exact ⟨Bool.and_eq_true_iff.2 ⟨hclass, admits_keeps _ _⟩, rfl,
      covers_misaligned _ _ _ _ _ _ (classOdd_masked _ hclass)⟩
  · have hclass := (classHalf_spec x.off).2 ⟨by simpa using odd, half⟩
    exact ⟨Bool.and_eq_true_iff.2 ⟨hclass, admits_keeps _ _⟩, rfl,
      covers_misaligned _ _ _ _ _ _ (classHalf_masked _ hclass)⟩
  · have b0 : x.off[0] = false := by simpa using odd
    have b1 : x.off[1] = false := by simpa using half
    cases x.dir with
    | read => exact decodeRead_standsFor x.off x.data b0 b1
    | write => exact decodeWrite_standsFor x.off x.data b0 b1

/-- Settles O2: a decoded word is encoded from its own fields, but for a read's data. -/
theorem encodeUndoesDecode : Obligations.EncodeUndoesDecode := by
  intro x
  obtain ⟨wellFormed, hencode, -⟩ := decode_standsFor x
  refine ⟨wellFormed, hencode.trans ?_, (Txn.mk_fields x).symm⟩
  cases x.dir <;> rfl

/-! ### The rows of the opcode table -/

/-- Two rows ask for different values in the bits both of them look at. -/
abbrev Row.Apart (r r' : Row) : Prop :=
  r.pattern &&& r'.mask ≠ r'.pattern &&& r.mask

theorem Row.Apart.symm {r r' : Row} (h : r.Apart r') : r'.Apart r := Ne.symm h

theorem Row.Apart.not_covers {r r' : Row} (h : r.Apart r') {x : Txn} (hx : r.covers x = true) :
    ¬ r'.covers x = true := by
  intro hx'
  obtain hp : x &&& r.mask = r.pattern := beq_iff_eq.1 hx
  obtain hp' : x &&& r'.mask = r'.pattern := beq_iff_eq.1 hx'
  refine h ?_
  rw [← hp, ← hp', BitVec.and_assoc, BitVec.and_assoc, BitVec.and_comm r.mask]

section
set_option maxRecDepth 100000

theorem opcodeRows_apart : opcodeRows.Pairwise Row.Apart := by
  decide

end

/-- Of rows that are apart, at most the one that covers a word is left when the others are dropped. -/
theorem filter_covers_eq_singleton {rows : List Row} (apart : rows.Pairwise Row.Apart) {row : Row}
    (mem : row ∈ rows) {x : Txn} (hx : row.covers x = true) :
    rows.filter (fun r => r.covers x) = [row] := by
  obtain ⟨before, after, rfl⟩ := List.append_of_mem mem
  obtain ⟨-, hafter, hbefore⟩ := List.pairwise_append.1 apart
  have none_before : before.filter (fun r => r.covers x) = [] :=
    List.filter_eq_nil_iff.2 fun r hr => (hbefore r hr row List.mem_cons_self).symm.not_covers hx
  have none_after : after.filter (fun r => r.covers x) = [] :=
    List.filter_eq_nil_iff.2 fun r hr => (List.rel_of_pairwise_cons hafter hr).not_covers hx
  simp [none_before, none_after, hx]

/-- Settles O3: the decoded instruction's row covers the word, and every other row is apart from it. -/
theorem opcodeRowsDisjointAndTotal : Obligations.OpcodeRowsDisjointAndTotal := by
  intro x
  have hcovers := (decode_standsFor x).covers
  rw [Txn.mk_fields] at hcovers
  exact filter_covers_eq_singleton opcodeRows_apart (Laws.EncodesIntoRow.row_listed _) hcovers

/-- Settles O4: fourteen closed words. -/
theorem specWordsDecode : Obligations.SpecWordsDecode :=
  ⟨rfl, rfl, rfl, rfl, rfl, rfl, rfl, rfl, rfl, rfl, rfl, rfl, rfl, rfl⟩

end Sys2Proof

namespace Sys2Proof.Machine

/-! ### The word `STATUS` reads as, and the reserved codes -/

/-- The flags and the code of a state that meets the invariant: idle, busy, done, or one of the four
errors (10_state.md R14, 60_exceptions.md R171). -/
theorem Inv.flag_cases {s : State} (h : Inv s) :
    (s.err = false ∧ s.errCode = 0#3 ∧ ¬ (s.busy = true ∧ s.done = true)) ∨
    (s.err = true ∧ s.busy = false ∧ s.done = false ∧ ∃ e : BoundaryError, s.errCode = e.code) := by
  obtain ⟨not_busy_done, not_busy_err, not_done_err⟩ := h.flags
  have code := h.errCode
  cases err : s.err with
  | false => exact .inl ⟨rfl, by simpa [err] using code, not_busy_done⟩
  | true =>
    exact .inr ⟨rfl, by simpa [err] using not_busy_err, by simpa [err] using not_done_err,
      by simpa [err] using code⟩

/-- Settles O53: the three words without an error and the four with one. -/
theorem statusHasSevenValues : Obligations.StatusHasSevenValues := by
  intro s inv
  unfold statusWord
  rcases inv.flag_cases with ⟨err, code, flags⟩ | ⟨err, busy, done, e, code⟩
  · rw [err, code]
    revert flags
    generalize s.busy = busy
    generalize s.done = done
    revert busy done
    decide
  · rw [err, code, busy, done]
    cases e <;> decide

/-- A code no command has, written while idle, is refused (30_encoding.md R56). -/
theorem ctrlWrite_reserved (op : BitVec 4) (s : State) (idle : s.busy = false)
    (reserved : commandOf op = none) :
    ctrlWrite op s = { s with done := false, err := true, errCode := 7#3 } := by
  simp [ctrlWrite, idle, reserved, forgetOutcome, refuse, BoundaryError.code]

/-- Settles O6: each of the twelve is a `CTRL` write of a code no command has. -/
theorem reservedCodesRefused : Obligations.ReservedCodesRefused := by
  intro s ig idle
  have refused (op : BitVec 4) (reserved : commandOf op = none) :=
    congrArg (Host.Outcome.next (φ := Fault) (ρ := Refusal)) (ctrlWrite_reserved op s idle reserved)
  rw [← List.forall_iff_forall_mem]
  exact ⟨refused 0x0#4 rfl, refused 0x5#4 rfl, refused 0x6#4 rfl, refused 0x7#4 rfl,
    refused 0x8#4 rfl, refused 0x9#4 rfl, refused 0xA#4 rfl, refused 0xB#4 rfl,
    refused 0xC#4 rfl, refused 0xD#4 rfl, refused 0xE#4 rfl, refused 0xF#4 rfl⟩

end Sys2Proof.Machine

/-! ## The input codec: the texts, the renderings, and loading a sequence -/

namespace Sys2Proof.Machine

/-! ### The characters of a text -/

/-- The six whitespace characters (40_input_codec.md R70). -/
def whitespaceChars : List Char :=
  [' ', '\t', '\n', Char.ofNat 0x0B, Char.ofNat 0x0C, '\r']

/-- The 26 letters from `first` on, in ASCII order. -/
def lettersFrom (first : Char) : List Char :=
  (List.range 26).map fun i => Char.ofNat (first.toNat + i)

/-- The hex digits by value (40_input_codec.md R70, R74). -/
def hexDigits : List Char :=
  (List.range 16).map hexDigit

/-- A character is looked up by its code point, so that a range of code points and a list of characters
are compared as numbers. -/
theorem mem_iff_toNat_mem (c : Char) (l : List Char) : c ∈ l ↔ c.toNat ∈ l.map Char.toNat :=
  (List.mem_map_of_injective fun _ _ => Char.toNat_inj.1).symm

theorem isWhitespace_eq (c : Char) : isWhitespace c = decide (c ∈ whitespaceChars) := by
  have codes : whitespaceChars.map Char.toNat = [0x20, 0x09, 0x0A, 0x0B, 0x0C, 0x0D] := by decide
  rw [isWhitespace, Bool.eq_iff_iff, decide_eq_true_iff, mem_iff_toNat_mem, codes]
  simp only [Bool.or_eq_true, Bool.and_eq_true, beq_iff_eq, decide_eq_true_eq, List.mem_cons,
    List.not_mem_nil, or_false]
  omega

theorem isHexDigit_eq (c : Char) : isHexDigit c = decide (c ∈ hexDigits) := by
  have codes : hexDigits.map Char.toNat = List.range' 0x30 10 ++ List.range' 0x41 6 := by decide
  rw [isHexDigit, Bool.eq_iff_iff, decide_eq_true_iff, mem_iff_toNat_mem, codes]
  simp only [Bool.or_eq_true, Bool.and_eq_true, decide_eq_true_eq, Char.reduceToNat, List.mem_append,
    List.mem_range'_1]
  omega

/-- `upper` replaces the letter at a place of the lower-case alphabet by the one at the same place of the
upper-case alphabet, and no other character (40_input_codec.md R70). -/
theorem getD_idxOf_eq_upper (c : Char) :
    (lettersFrom 'A').getD ((lettersFrom 'a').idxOf c) c = upper c := by
  have letters : ∀ i < 26, (lettersFrom 'A').getD ((lettersFrom 'a').idxOf (Char.ofNat (97 + i)))
      (Char.ofNat (97 + i)) = upper (Char.ofNat (97 + i)) := by decide
  by_cases lower : 97 ≤ c.toNat ∧ c.toNat ≤ 122
  · have at_place := letters (c.toNat - 97) (by omega)
    rwa [Nat.add_sub_cancel' lower.1, Char.ofNat_toNat] at at_place
  · have codes : (lettersFrom 'a').map Char.toNat = List.range' 97 26 := by decide
    have absent : c ∉ lettersFrom 'a' := by
      rw [mem_iff_toNat_mem, codes, List.mem_range'_1]
      omega
    rw [List.idxOf_eq_length_iff.2 absent, List.getD_eq_default _ _ (by decide)]
    exact (if_neg lower).symm

theorem mem_hexDigits {c : Char} : c ∈ hexDigits ↔ ∃ n < 16, hexDigit n = c := by
  simp [hexDigits]

theorem hexVal_hexDigit : ∀ n < 16, hexVal (hexDigit n) = n := by
  decide

theorem idxOf_hexDigit : ∀ n < 16, hexDigits.idxOf (hexDigit n) = n := by
  decide

theorem hexVal_eq_idxOf (c : Char) (h : c ∈ hexDigits) : hexVal c = hexDigits.idxOf c := by
  obtain ⟨n, hn, rfl⟩ := mem_hexDigits.1 h
  rw [hexVal_hexDigit n hn, idxOf_hexDigit n hn]

theorem idxOf_hexDigits_lt (c : Char) (h : c ∈ hexDigits) : hexDigits.idxOf c < 16 :=
  List.idxOf_lt_length_iff.2 h

/-! ### The bits of the digits -/

/-- The four bits of a digit's value, most significant first (40_input_codec.md R72). -/
def nibbleBits (n : Nat) : List Bool :=
  [3, 2, 1, 0].map n.testBit

theorem bitsOfByte_nibbles (hi lo : Nat) (h : lo < 16) :
    bitsOfByte (BitVec.ofNat 8 (16 * hi + lo)) = nibbleBits hi ++ nibbleBits lo := by
  have bit (j : Nat) : (16 * hi + lo).testBit j = if j < 4 then lo.testBit j else hi.testBit (j - 4) :=
    Nat.testBit_two_pow_mul_add hi (i := 4) h j
  have msb (i : Nat) (h : i < 8) :
      (BitVec.ofNat 8 (16 * hi + lo)).getMsbD i = (16 * hi + lo).testBit (7 - i) := by
    have in_range : 7 - i < 8 := by omega
    simp only [BitVec.getMsbD_eq_getLsbD, BitVec.getLsbD_ofNat, Nat.reduceSub, h, in_range,
      decide_true, Bool.true_and]
  simp [bitsOfByte, nibbleBits, List.range_succ, msb, bit]

/-- An even number of hex digits spells the four bits of each. -/
theorem hexBits_eq_flatMap : ∀ digits : List Char, (∀ c ∈ digits, c ∈ hexDigits) →
    digits.length % 2 = 0 →
    hexBits digits = digits.flatMap fun c => nibbleBits (hexDigits.idxOf c)
  | [], _, _ => rfl
  | [_], _, even => by simp at even
  | hi :: lo :: rest, hex, even => by
    have hhi : hi ∈ hexDigits := hex hi (by simp)
    have hlo : lo ∈ hexDigits := hex lo (by simp)
    have even_rest : rest.length % 2 = 0 := by
      simp only [List.length_cons] at even
      omega
    have ih := hexBits_eq_flatMap rest (fun c hc => hex c (by simp [hc])) even_rest
    rw [hexBits, hexVal_eq_idxOf hi hhi, hexVal_eq_idxOf lo hlo,
      bitsOfByte_nibbles _ _ (idxOf_hexDigits_lt lo hlo), ih]
    simp

@[simp] theorem bitsOfByte_length (b : BitVec 8) : (bitsOfByte b).length = 8 := by
  simp [bitsOfByte]

/-! ### What the parsers accept -/

theorem parseBin_eq_ok (text : List Char)
    (digits : ∀ c ∈ significant text, c = '0' ∨ c = '1')
    (pos : 1 ≤ (significant text).length) (fits : (significant text).length ≤ 96) :
    parseBin text = .ok ((significant text).map fun c => decide (c = '1')) := by
  have none_bad : (significant text).filter (fun c => c != '0' && c != '1') = [] := by
    rw [List.filter_eq_nil_iff]
    intro c hc
    rcases digits c hc with rfl | rfl <;> decide
  have : significant text ≠ [] := List.ne_nil_of_length_pos pos
  simp [parseBin, none_bad, this, Config.maxBits, Nat.not_lt.2 fits, beq_eq_decide]

theorem parseHex_eq_ok (text : List Char)
    (digits : ∀ c ∈ significant (text.map upper), c ∈ hexDigits)
    (even : (significant (text.map upper)).length % 2 = 0)
    (pos : 1 ≤ (significant (text.map upper)).length)
    (fits : (significant (text.map upper)).length ≤ 24) :
    parseHex text = .ok (hexBits (significant (text.map upper))) := by
  have none_bad : (significant (text.map upper)).filter (fun c => !isHexDigit c) = [] := by
    rw [List.filter_eq_nil_iff]
    intro c hc
    simp [isHexDigit_eq, digits c hc]
  have : significant (text.map upper) ≠ [] := List.ne_nil_of_length_pos pos
  have bytes : ¬ 12 < (significant (text.map upper)).length / 2 := by omega
  simp [parseHex, none_bad, this, even, Config.maxBytes, bytes]

/-- Settles O55: the model's offenders are the statement's, and each clause takes one branch of the
parser. -/
theorem parseBinOutcomes : Obligations.ParseBinOutcomes := by
  intro text white sig bad
  have hsig : significant text = sig :=
    List.filter_congr fun c _ => congrArg not (isWhitespace_eq c)
  have hbad : sig.filter (fun c => c != '0' && c != '1') = bad :=
    List.filter_congr fun c _ => by by_cases c = '0' <;> by_cases c = '1' <;> simp [*]
  refine ⟨fun offends => ?_, fun _ empty => ?_, fun clean long => ?_, fun clean pos fits => ?_⟩
  · simp [parseBin, hsig, hbad, offends, Config.maxReport]
  · simp [parseBin, hsig, empty]
  · have : sig ≠ [] := List.ne_nil_of_length_pos (by omega)
    simp [parseBin, hsig, hbad, clean, this, Config.maxBits, long]
  · have digits : ∀ c ∈ sig, c = '0' ∨ c = '1' := by
      simpa [bad, or_iff_not_imp_left] using clean
    rw [← hsig] at digits pos fits ⊢
    exact parseBin_eq_ok text digits pos fits

/-- Settles O56: as for `PARSE_BIN`, once raising and the two filters are matched. -/
theorem parseHexOutcomes : Obligations.ParseHexOutcomes := by
  intro text white lower capital hex raised digits bad
  have hraised : text.map upper = raised :=
    List.map_congr_left fun c _ => (getD_idxOf_eq_upper c).symm
  have hdigits : significant (text.map upper) = digits := by
    rw [hraised]
    exact List.filter_congr fun c _ => congrArg not (isWhitespace_eq c)
  have hbad : digits.filter (fun c => !isHexDigit c) = bad :=
    List.filter_congr fun c _ => congrArg not (isHexDigit_eq c)
  refine ⟨fun offends => ?_, fun _ empty => ?_, fun clean odd => ?_,
    fun clean even long => ?_, fun clean even pos fits => ?_⟩
  · simp [parseHex, hdigits, hbad, offends, Config.maxReport]
  · simp [parseHex, hdigits, empty]
  · have : digits ≠ [] := List.ne_nil_of_length_pos (by omega)
    simp [parseHex, hdigits, hbad, clean, this, odd]
  · have : digits ≠ [] := List.ne_nil_of_length_pos (by omega)
    have bytes : 12 < digits.length / 2 := by omega
    have bits : 8 * (digits.length / 2) = 4 * digits.length := by omega
    simp [parseHex, hdigits, hbad, clean, this, even, Config.maxBytes, Config.maxBits, bytes, bits]
  · have all_hex : ∀ c ∈ digits, c ∈ hexDigits := by
      simpa [isHexDigit_eq] using hbad.trans clean
    have accepted := parseHex_eq_ok text (hdigits ▸ all_hex)
      (hdigits ▸ even) (hdigits ▸ pos) (hdigits ▸ fits)
    rw [hdigits, hexBits_eq_flatMap digits all_hex even] at accepted
    refine ⟨_, accepted, ?_, rfl⟩
    simp [nibbleBits, List.length_flatMap, mul_comm]

/-! ### Hex and binary texts of the same bytes -/

theorem hexDigit_mem_hexDigits (n : Nat) (h : n < 16) : hexDigit n ∈ hexDigits :=
  mem_hexDigits.2 ⟨n, h, rfl⟩

/-- The two-digit rendering of a byte, upper-case (40_input_codec.md R77). -/
def byteDigits (b : BitVec 8) : List Char :=
  [hexDigit (b.toNat / 16), hexDigit (b.toNat % 16)]

theorem mem_hexDigits_of_mem_byteDigits (b : BitVec 8) : ∀ c ∈ byteDigits b, c ∈ hexDigits := by
  have := b.isLt
  simp only [byteDigits, List.forall_mem_cons]
  exact ⟨hexDigit_mem_hexDigits _ (by omega), hexDigit_mem_hexDigits _ (by omega), by simp⟩

theorem hexBits_flatMap_byteDigits (bytes : List (BitVec 8)) :
    hexBits (bytes.flatMap byteDigits) = bytes.flatMap bitsOfByte := by
  induction bytes with
  | nil => rfl
  | cons b bytes ih =>
    have hb := b.isLt
    have value :
        16 * hexVal (hexDigit (b.toNat / 16)) + hexVal (hexDigit (b.toNat % 16)) = b.toNat := by
      rw [hexVal_hexDigit _ (by omega), hexVal_hexDigit _ (by omega), Nat.div_add_mod]
    simp only [List.flatMap_cons, byteDigits, List.cons_append, List.nil_append, hexBits, value,
      BitVec.ofNat_toNat, BitVec.setWidth_eq]
    rw [← ih]

/-- The binary text that spells a sequence (40_input_codec.md R77). -/
def bitText (l : List Bool) : List Char :=
  l.map fun b => if b then '1' else '0'

theorem mem_bitText {l : List Bool} {c : Char} (h : c ∈ bitText l) : c = '0' ∨ c = '1' := by
  obtain ⟨b, -, rfl⟩ := List.mem_map.1 h
  cases b <;> simp

theorem significant_bitText (l : List Bool) : significant (bitText l) = bitText l := by
  rw [significant, List.filter_eq_self]
  intro c hc
  rcases mem_bitText hc with rfl | rfl <;> rfl

theorem map_eq_one_bitText (l : List Bool) : (bitText l).map (fun c => decide (c = '1')) = l := by
  simp [bitText, Function.comp_def]

theorem parseBin_bitText (l : List Bool) (pos : 1 ≤ l.length) (fits : l.length ≤ 96) :
    parseBin (bitText l) = .ok l := by
  have length : (significant (bitText l)).length = l.length := by
    rw [significant_bitText, bitText, List.length_map]
  rw [parseBin_eq_ok _ ?_ (length ▸ pos) (length ▸ fits), significant_bitText, map_eq_one_bitText]
  rw [significant_bitText]
  exact fun c => mem_bitText

/-- Settles O57: each parser accepts its text and reads the bytes' bits, over which the two CRC paths
agree. -/
theorem hexAndBinaryTextsAgree : Obligations.HexAndBinaryTextsAgree := by
  intro text bytes pos fits spells spelled
  have two_digits : significant (text.map upper) = bytes.flatMap byteDigits := spells
  have length_digits : (bytes.flatMap byteDigits).length = 2 * bytes.length := by
    simp [byteDigits, List.length_flatMap, mul_comm]
  have length_bits : (bytes.flatMap bitsOfByte).length = 8 * bytes.length := by
    simp [List.length_flatMap, mul_comm]
  have hex : parseHex text = .ok (bytes.flatMap bitsOfByte) := by
    rw [parseHex_eq_ok text, two_digits, hexBits_flatMap_byteDigits]
    · rw [two_digits]
      intro c hc
      obtain ⟨b, -, hb⟩ := List.mem_flatMap.1 hc
      exact mem_hexDigits_of_mem_byteDigits b c hb
    all_goals rw [two_digits, length_digits]; omega
  refine ⟨by simp [spelled, length_bits], _, hex, ?_, rfl, (crcFast_canonTable _).symm⟩
  exact parseBin_bitText _ (by omega) (by omega)

/-! ### The renderings of a CRC value -/

theorem hexDigit_mem_decimal : ∀ n < 10,
    hexDigit n ∈ ['0', '1', '2', '3', '4', '5', '6', '7', '8', '9'] := by
  decide

theorem hexDigit_mem_octal : ∀ n < 8, hexDigit n ∈ ['0', '1', '2', '3', '4', '5', '6', '7'] := by
  decide

theorem decimalValue_hexDigit : ∀ n < 10, (hexDigit n).toNat - '0'.toNat = n := by
  decide

theorem hexDigit_eq_zero : ∀ n < 10, hexDigit n = '0' → n = 0 := by
  decide

/-- The most significant `k` bits, read as a number. -/
theorem foldl_getMsbD_eq {w : Nat} (v : BitVec w) (k : Nat) (h : k ≤ w) :
    (List.range k).foldl (fun n i => 2 * n + (v.getMsbD i).toNat) 0 = v.toNat / 2 ^ (w - k) := by
  induction k with
  | zero => simp [Nat.div_eq_of_lt v.isLt]
  | succ k ih =>
    have bit : (v.getMsbD k).toNat = v.toNat / 2 ^ (w - (k + 1)) % 2 := by
      rw [BitVec.getMsbD_eq_getLsbD, BitVec.getLsbD, ← Nat.toNat_testBit]
      simp [show k < w by omega, show w - 1 - k = w - (k + 1) by omega]
    have half : v.toNat / 2 ^ (w - k) = v.toNat / 2 ^ (w - (k + 1)) / 2 := by
      rw [Nat.div_div_eq_div_mul, ← Nat.pow_succ, Nat.succ_eq_add_one,
        show w - (k + 1) + 1 = w - k by omega]
    rw [List.range_succ, List.foldl_append, List.foldl_cons, List.foldl_nil, ih (by omega), bit, half,
      Nat.div_add_mod]

theorem renderBin_foldl (v : Crc15) :
    (renderBin v).foldl (fun n c => 2 * n + if c = '1' then 1 else 0) 0 = v.toNat := by
  have digit (b : Bool) : (if (if b then '1' else '0') = '1' then 1 else 0) = b.toNat := by
    cases b <;> rfl
  simp only [renderBin, List.foldl_map, digit]
  simpa using foldl_getMsbD_eq v 15 le_rfl

theorem renderHex_foldl (v : Crc15) :
    (renderHex v).foldl (fun n c => 16 * n + hexVal c) 0 = v.toNat := by
  have := v.isLt
  simp only [renderHex, List.map_cons, List.map_nil, List.foldl_cons, List.foldl_nil]
  rw [hexVal_hexDigit _ (by omega), hexVal_hexDigit _ (by omega), hexVal_hexDigit _ (by omega),
    hexVal_hexDigit _ (by omega)]
  omega

/-- The decimal digits above the last, with leading zeros. -/
def upperDecimals (v : Crc15) : List Nat :=
  [v.toNat / 10000, v.toNat / 1000 % 10, v.toNat / 100 % 10, v.toNat / 10 % 10]

/-- The decimal digits as numbers, with no leading zero but the last digit's. -/
def decimals (v : Crc15) : List Nat :=
  (upperDecimals v).dropWhile (· == 0) ++ [v.toNat % 10]

theorem renderDec_eq (v : Crc15) : renderDec v = (decimals v).map hexDigit := rfl

theorem decimals_lt (v : Crc15) : ∀ d ∈ decimals v, d < 10 := by
  have := v.isLt
  intro d hd
  rcases List.mem_append.1 hd with upper | last
  · have digit : d ∈ upperDecimals v := (List.dropWhile_sublist _).subset upper
    simp only [upperDecimals, List.mem_cons, List.not_mem_nil, or_false] at digit
    omega
  · rw [List.mem_singleton] at last
    omega

/-- Leading zeros add nothing to the number. -/
theorem foldl_dropWhile_zero (l : List Nat) :
    (l.dropWhile (· == 0)).foldl (fun n d => 10 * n + d) 0 = l.foldl (fun n d => 10 * n + d) 0 := by
  induction l with
  | nil => rfl
  | cons d l ih => cases d <;> simp_all

theorem decimals_foldl (v : Crc15) : (decimals v).foldl (fun n d => 10 * n + d) 0 = v.toNat := by
  rw [decimals, List.foldl_append, foldl_dropWhile_zero]
  simp only [upperDecimals, List.foldl_cons, List.foldl_nil]
  omega

theorem decimals_head? (v : Crc15) (h : v ≠ 0#15) : (decimals v).head? ≠ some 0 := by
  have first := List.head?_dropWhile_not (· == 0) (upperDecimals v)
  rw [decimals, List.head?_append]
  cases hd : ((upperDecimals v).dropWhile (· == 0)).head? with
  | some d => simpa [hd] using first
  | none =>
    have zeros : ∀ d ∈ upperDecimals v, d = 0 := by simpa using hd
    have pos : v.toNat ≠ 0 := fun h0 => h (BitVec.eq_of_toNat_eq h0)
    simp only [upperDecimals, List.forall_mem_cons] at zeros
    have last : v.toNat % 10 ≠ 0 := by omega
    simpa using last

theorem foldl_map_hexDigit (l : List Nat) (h : ∀ d ∈ l, d < 10) :
    (l.map hexDigit).foldl (fun n c => 10 * n + (c.toNat - '0'.toNat)) 0 =
      l.foldl (fun n d => 10 * n + d) 0 := by
  rw [List.foldl_map]
  exact List.foldl_ext _ _ _ fun n d hd => by rw [decimalValue_hexDigit d (h d hd)]

/-- Settles O58: the digits of each rendering are in range, and folding them gives the value back. -/
theorem renderingsReadBack : Obligations.RenderingsReadBack := by
  intro v
  have hv := v.isLt
  refine ⟨rfl, ?_, ?_, renderHex_foldl v, by simp [render, renderBin], ?_,
    renderBin_foldl v, ?_, ?_, ?_, ?_⟩
  · intro c hc
    simp only [render, renderHex, List.mem_map] at hc
    obtain ⟨d, hd, rfl⟩ := hc
    exact hexDigit_mem_hexDigits d (by simp at hd; omega)
  · simpa [render, renderHex] using hexDigit_mem_octal (v.toNat / 4096) (by omega)
  · simp only [render, renderBin, List.forall_mem_map]
    intro i _
    cases v.getMsbD i <;> simp
  · simp only [render, renderDec_eq, List.forall_mem_map]
    exact fun d hd => hexDigit_mem_decimal d (decimals_lt v d hd)
  · intro nonzero leading
    simp only [render, renderDec_eq, List.head?_map, Option.map_eq_some_iff] at leading
    obtain ⟨d, hd, zero⟩ := leading
    have := hexDigit_eq_zero d (decimals_lt v d (List.mem_of_head? hd)) zero
    exact decimals_head? v nonzero (this ▸ hd)
  · rintro rfl
    decide
  · exact (foldl_map_hexDigit _ (decimals_lt v)).trans (decimals_foldl v)

/-! ### Loading a sequence -/

/-- Shifting in `f 0` to `f (k - 1)` leaves the last of them in bit 0. -/
theorem getLsbD_foldl_packed (f : Nat → Bool) (k j : Nat) (hj : j < 32) :
    BitVec.getLsbD ((List.range k).foldl
      (fun acc i => acc <<< 1 ||| (BitVec.ofBool (f i)).setWidth 32) 0#32) j =
      (decide (j < k) && f (k - 1 - j)) := by
  induction k generalizing j with
  | zero => simp
  | succ k ih =>
    rw [List.range_succ, List.foldl_append, List.foldl_cons, List.foldl_nil, BitVec.getLsbD_or,
      BitVec.getLsbD_shiftLeft, BitVec.getLsbD_setWidth, BitVec.getLsbD_ofBool]
    cases j with
    | zero => simp
    | succ j =>
      rw [Nat.add_sub_cancel, ih j (by omega)]
      simp [hj, show k - 1 - j = k - (j + 1) by omega]

/-- Bit `31 - i` of `d[n]` is element `32n + i` of the sequence (40_input_codec.md R76). -/
theorem getLsbD_packWord (l : List Bool) (n i : Nat) (h : i < 32) :
    (packWord l n).getLsbD (31 - i) = l.getD (32 * n + i) false := by
  rw [packWord, getLsbD_foldl_packed (fun i => l.getD (32 * n + i) false) 32 _ (by omega)]
  simp [show 31 - i < 32 by omega, show 31 - (31 - i) = i by omega]

/-- The bit store once the three packed words of a sequence are written to it. -/
def loadedCells (bits : BitVec 96) (l : List Bool) : BitVec 96 :=
  withDataWord (withDataWord (withDataWord bits 0 (packWord l 0)) 1 (packWord l 1)) 2 (packWord l 2)

/-- Every cell is written: it holds the sequence's element, and 0 beyond the sequence. -/
theorem cellOf_loadedCells (bits : BitVec 96) (l : List Bool) (h : l.length ≤ 96) (i : Nat) :
    cellOf (loadedCells bits l) i = l.getD i false := by
  by_cases hi : i < 96
  · have word (n : Nat) (hn : i / 32 = n) : (packWord l n).getLsbD (31 - i % 32) = l.getD i false := by
      rw [getLsbD_packWord l n _ (Nat.mod_lt _ (by decide)), ← hn, Nat.div_add_mod]
    simp only [loadedCells, cellOf_withDataWord _ _ _ _ i hi, Nat.reduceLT]
    split_ifs with h2 h1 h0
    · exact word 2 h2
    · exact word 1 h1
    · exact word 0 h0
    · omega
  · rw [List.getD_eq_default _ _ (by omega)]
    exact BitVec.getMsbD_of_ge _ _ (by omega)

theorem sequence_of_loadedCells (t : State) (bits : BitVec 96) (l : List Bool) (h : l.length ≤ 96)
    (hbits : t.bits = loadedCells bits l) (hlen : t.len = BitVec.ofNat 7 l.length) : t.sequence = l := by
  have length : t.sequence.length = l.length := by
    rw [sequence_length, hlen, BitVec.toNat_ofNat]
    omega
  refine List.ext_getElem length fun i _ hi => ?_
  rw [sequence_getElem, hbits, cellOf_loadedCells _ _ h, List.getD_eq_getElem _ _ hi]

/-- A host step whose next line writes a register carries the write out. -/
theorem step_wrLine (s : State) (r : Reg) (v : Word) (rest : List HostLine) (later : List Turn)
    (script : s.script = wrLine r v :: rest) (turns : s.turns = .host :: later) :
    step s = exec (decodeWrite r.offset v) { s with script := rest, turns := later } := by
  rw [step, nextTurn_cons s _ _ turns, takeTurn_cons s _ _ turns, hostStep]
  simp only [script, wrLine, decode_write]

/-- A run whose first step writes an input register while idle goes on from the written state. -/
theorem run_inputWrite {s : State} (n : Nat) (r : Reg) (v : Word) {f : State → State}
    {rest : List HostLine} {later : List Turn}
    (meaning : ∀ t, exec (decodeWrite r.offset v) t = .next (whenIdle f t)) (idle : s.busy = false)
    (script : s.script = wrLine r v :: rest) (turns : s.turns = .host :: later) :
    core.run (n + 1) s = core.run n (f { s with script := rest, turns := later }) := by
  have first : core.step s = .next (f { s with script := rest, turns := later }) :=
    calc step s
        = exec (decodeWrite r.offset v) _ := step_wrLine s r v rest later script turns
      _ = .next (whenIdle f _) := meaning _
      _ = .next (f _) := congrArg _ (whenIdle_idle f _ idle)
  simp only [Host.Core.run, first]

/-- Settles O59: four writes while idle, the first three of which set every cell. -/
theorem loadBitsLoadsTheSequence : Obligations.LoadBitsLoadsTheSequence := by
  intro s l rest later _ fits idle script turns
  have len : (BitVec.ofNat 32 l.length).setWidth 7 = BitVec.ofNat 7 l.length :=
    BitVec.setWidth_ofNat_of_le (by decide) _
  refine ⟨loadedCells s.bits l, ?_, fun t => sequence_of_loadedCells t s.bits l fits, fun i hi => ?_⟩
  · rw [← len]
    calc core.run 4 s
        = core.run 3 _ := run_inputWrite 3 .data0 (packWord l 0) (fun _ => rfl) idle script turns
      _ = core.run 2 _ := run_inputWrite 2 .data1 (packWord l 1) (fun _ => rfl) idle rfl rfl
      _ = core.run 1 _ := run_inputWrite 1 .data2 (packWord l 2) (fun _ => rfl) idle rfl rfl
      _ = core.run 0 _ := run_inputWrite 0 .len (BitVec.ofNat 32 l.length) (fun _ => rfl) idle rfl rfl
  · rw [cellOf_loadedCells _ _ fits, List.getD_eq_default _ _ hi]

end Sys2Proof.Machine

namespace Sys2Proof.Machine

/-! ### The table: its laws, its listing, and `TBL_BUILD` -/

/-- The polynomial is odd, so the new bit 0 of a step with input 0 shows the feedback. -/
theorem bitStep_false_bit_zero (r : Crc15) : (bitStep r false)[0] = r[14] := by
  rw [bitStep_eq]
  cases r[14] <;> simp [feedbackTerm, Config.poly]

/-- Only the register 0 steps to 0: no feedback means that the step only shifted a register with a
clear top bit. -/
theorem bitStep_false_eq_zero (r : Crc15) (h : bitStep r false = 0#15) : r = 0#15 := by
  have top : r[14] = false := by simpa [h] using (bitStep_false_bit_zero r).symm
  have shifted : r <<< 1 = 0#15 := by simpa [bitStep_eq, top, feedbackTerm] using h
  apply BitVec.eq_of_getLsbD_eq
  intro i hi
  by_cases htop : i = 14
  · simpa [htop] using top
  · have next := congrArg (·.getLsbD (i + 1)) shifted
    simpa [hi, show i + 1 < 15 by omega] using next

theorem zeroSteps_eq_zero (n : Nat) (r : Crc15) (h : zeroSteps n r = 0#15) : r = 0#15 := by
  induction n generalizing r with
  | zero => exact h
  | succ n ih => exact bitStep_false_eq_zero r (ih _ h)

theorem tableSeed_eq_zero (b : BitVec 8) (h : tableSeed b = 0#15) : b = 0#8 := by
  apply BitVec.eq_of_getLsbD_eq
  intro i hi
  have bit := congrArg (·.getLsbD (i + 7)) h
  simpa [tableSeed, Config.seedShift, show i + 7 < 15 by omega, show i < 15 by omega] using bit

/-- The table's entries are distinct (41_crc_table.md R93): by linearity it is enough that only the
entry at 0 is 0. -/
theorem tblEntry_injective : Function.Injective tblEntry := by
  intro a b h
  have zero : tblEntry (a ^^^ b) = 0#15 := by rw [tblEntry_xor, h, BitVec.xor_self]
  exact BitVec.xor_eq_zero_iff.1 (tableSeed_eq_zero _ (zeroSteps_eq_zero 8 _ zero))

/-- Settles O25: linearity and its consequence that no two entries agree; the eight basis entries are
evaluated. -/
theorem tableIsLinearAndDistinct : Obligations.TableIsLinearAndDistinct :=
  ⟨tblEntry_xor, by decide, by decide, @tblEntry_injective, tableAt_canonTable⟩

theorem engStep_tblBuild (s : State) (busy : s.busy = true) (op : s.op = 4#4) :
    engStep s = tblBuildStep s := by
  have command : commandOf s.op = some .tblBuild := (commandOf_eq_some _ _).2 op
  simp [engStep, busy, command]

/-- Settles O40: the first step stores the constant table, the second completes. -/
theorem buildRestoresTheTableOnly : Obligations.BuildRestoresTheTableOnly := by
  intro s busy op phase
  have store : engStep s = { s with tbl := canonTable, phase := .finish } := by
    simp [engStep_tblBuild s busy op, tblBuildStep, phase]
  refine ⟨canonTable, ?_, tableAt_canonTable⟩
  calc engStep (engStep s)
      = tblBuildStep { s with tbl := canonTable, phase := .finish } := by
        rw [store]
        exact engStep_tblBuild _ busy op
    _ = complete { s with tbl := canonTable, phase := .finish } := rfl

set_option maxRecDepth 10000 in
/-- Settles O26: the listing is the evaluation of `TblEntry` at every byte, from which the table at reset
is made (41_crc_table.md R94, 10_state.md R13). -/
theorem tableHoldsTheListedValues : Obligations.TableHoldsTheListedValues := by
  change canonTable.toList = _
  decide

theorem bitsOfByte_byteOfBits (l : List Bool) (h : l.length = 8) : bitsOfByte (byteOfBits l) = l := by
  match l, h with
  | [b7, b6, b5, b4, b3, b2, b1, b0], _ => exact bitsOfByteOfBits ..

theorem bitsOfByte_injective : Function.Injective bitsOfByte := by
  intro a b h
  apply BitVec.eq_of_getMsbD_eq
  intro i hi
  exact List.map_inj_left.1 h i (List.mem_range.2 hi)

theorem byteOfBits_bitsOfByte (b : BitVec 8) : byteOfBits (bitsOfByte b) = b :=
  bitsOfByte_injective (bitsOfByte_byteOfBits _ (bitsOfByte_length b))

/-- Settles O27: the entry of a byte is the CRC of its eight bits. -/
theorem tableEntryIsCrcOfItsByte : Obligations.TableEntryIsCrcOfItsByte := by
  intro b
  rw [crcRef_of_length_eight _ (bitsOfByte_length b), byteOfBits_bitsOfByte]

end Sys2Proof.Machine

namespace Sys2Proof.Machine

/-! ### The CRC functions: the two paths, linearity, zeros and the residue -/

/-- Settles O28, by the induction over the byte loop and the lemma of the byte step. -/
theorem fastPathEqualsReference : Obligations.FastPathEqualsReference :=
  ⟨crcFast_canonTable, fun r b7 b6 b5 b4 b3 b2 b1 b0 =>
    byteStep_eq_foldl r [b7, b6, b5, b4, b3, b2, b1, b0] rfl⟩

/-- Linearity of the step, carried along two sequences of equal length. -/
theorem foldl_bitStep_zipWith (a b : List Bool) (h : a.length = b.length) (p q : Crc15) :
    (List.zipWith Bool.xor a b).foldl bitStep (p ^^^ q) =
      a.foldl bitStep p ^^^ b.foldl bitStep q := by
  induction a generalizing b p q with
  | nil =>
    obtain rfl := List.length_eq_zero_iff.1 h.symm
    rfl
  | cons x a ih =>
    cases b with
    | nil => simp at h
    | cons y b =>
      simp only [List.zipWith_cons_cons, List.foldl_cons, bitStep_xor]
      exact ih b (by simpa using h) _ _

theorem crcRef_replicate_false (n : Nat) : crcRef (List.replicate n false) = 0#15 := by
  induction n with
  | zero => rfl
  | succ n ih => rw [List.replicate_succ', crcRef_snoc, ih, bitStep_zero]

/-- Settles O24: the step's linearity, carried along the sequences from the register 0. -/
theorem crcIsLinear : Obligations.CrcIsLinear :=
  ⟨bitStep_xor, bitStep_zero, fun a b h => foldl_bitStep_zipWith a b h 0#15 0#15,
    crcRef_replicate_false⟩

/-- Settles O29: leading zeros leave the register at its start value 0. -/
theorem leadingZerosDoNotShow : Obligations.LeadingZerosDoNotShow := by
  refine ⟨crcRef_nil, crcFast_canonTable [], fun n s => ?_⟩
  rw [crcRef_append, crcRef_replicate_false, crcRef]

/-- A step whose input bit is the register's top bit has no feedback. -/
theorem bitStep_topBit (r : Crc15) : bitStep r r[14] = r <<< 1 := by
  simp [bitStep_eq, feedbackTerm]

/-- A register fed its own bits, top bit first, is only shifted (42_crc_engine.md R109). -/
theorem foldl_bitStep_ownBits (r : Crc15) (k : Nat) (hk : k ≤ 15) :
    ((List.range k).map fun i => r.getLsbD (14 - i)).foldl bitStep r = r <<< k := by
  induction k with
  | zero => simp
  | succ k ih =>
    have top : r.getLsbD (14 - k) = (r <<< k)[14] := by
      rw [BitVec.getElem_shiftLeft, BitVec.getLsbD_eq_getElem (by omega)]
      simp [show ¬ 14 < k by omega]
    rw [List.range_succ, List.map_append, List.foldl_append, ih (by omega), List.map_singleton,
      List.foldl_cons, List.foldl_nil, top, bitStep_topBit, ← BitVec.shiftLeft_add]

/-- Settles O30: fed its own fifteen bits, the register is shifted out. -/
theorem residueIsZero : Obligations.ResidueIsZero := by
  intro s
  rw [crcRef_append, foldl_bitStep_ownBits _ 15 le_rfl]
  exact BitVec.shiftLeft_eq_zero le_rfl

/-- Settles O23, from the step as a shift and a feedback term. -/
theorem bitStepInNumbers : Obligations.BitStepInNumbers := by
  intro r n
  have top : r[14] = decide (2 ^ 14 ≤ r.toNat) := BitVec.msb_eq_decide r
  have shift : (r <<< 1).toNat = 2 * r.toNat % 2 ^ 15 := by
    rw [BitVec.toNat_shiftLeft, Nat.shiftLeft_eq, Nat.mul_comm]
  have feedback (b : Bool) : (feedbackTerm (Bool.xor n b)).toNat = if n = b then 0 else 0x4599 := by
    cases n <;> cases b <;> rfl
  rw [bitStep_eq, BitVec.toNat_xor, shift, feedback, top]

/-! ### A completed command's result -/

/-- Once every worker has finished, the slot holds the batch's CRC: the pool is not empty, and its first
worker has been there (43_batch_runner.md R127, R128). -/
theorem Inv.result_of_allFinished {s : State} (h : Inv s) (busy : s.busy = true) (op : s.op = 3#4)
    (phase : s.phase = .join) (finished : allFinished s = true) :
    s.result = crcWord (crcRef s.sequence) := by
  obtain ⟨-, -, -, -, hpool⟩ := (h.running busy).pool op phase
  have hsize : 0 < s.workers.length := h.pool.1
  have hfirst : s.workers[0]? = some s.workers[0] := List.getElem?_eq_getElem hsize
  obtain ⟨-, -, -, hfin⟩ := hpool 0 _ hfirst
  exact (hfin ((allFinished_iff s).1 finished _ (List.getElem_mem _))).2

/-- What the invariant says of a batch before its completion step. -/
theorem Running.finished {s : State} (h : Running s) (op : s.op = 3#4) (phase : s.phase = .finish) :
    s.icnt = s.iter ∧ s.reg = crcRef s.sequence := by
  rw [running_iff_batch op] at h
  obtain ⟨-, -, hp | ⟨-, ⟨hp, -⟩ | ⟨-, hdone⟩⟩ | ⟨-, hp, -⟩⟩ := h
  · simp [phase] at hp
  · simp [phase] at hp
  · exact hdone
  · simp [phase] at hp

/-- The step of ENG that clears `BUSY` completes the command, and leaves the CRC in `RESULT` and a batch
that was not dispatched with its count at `ITER` (42_crc_engine.md R102 to R104, 43_batch_runner.md
R129). -/
theorem engStep_completes {s : State} (h : Inv s) (busy : s.busy = true)
    (idle : (engStep s).busy = false) :
    (engStep s).done = true ∧
      (s.op ≠ 4#4 → (engStep s).result = crcWord (crcRef s.sequence)) ∧
      (s.op = 3#4 → s.phase ≠ .join → (engStep s).icnt = s.iter) := by
  have hrun := h.running busy
  rcases engStep_effect s with he | ⟨-, he⟩
  · simp [he, busy] at idle
  generalize engStep s = t at he idle
  cases he with
  | start | startLoop | dispatch | bit | byte | fill => exact absurd (busy.symm.trans idle) (by simp)
  | count =>
    obtain ⟨r, p, n, ph, hc⟩ := countComputation_advance s
    simp [hc, busy] at idle
  | result op phase consumed =>
    have hreg := (hrun.computing phase).1.reg_of_consumed consumed
    exact ⟨rfl, fun _ => congrArg crcWord hreg, fun h3 => by rcases op with op | op <;> simp [op] at h3⟩
  | endLoop op phase =>
    obtain ⟨hicnt, hreg⟩ := hrun.finished op phase
    exact ⟨rfl, fun _ => congrArg crcWord hreg, fun _ _ => hicnt⟩
  | join op phase finished =>
    exact ⟨rfl, fun _ => h.result_of_allFinished busy op phase finished, fun _ hp => absurd phase hp⟩
  | built op => exact ⟨rfl, absurd op, fun h3 => by simp [op] at h3⟩

/-- Settles O39: only ENG completes a command; the host keeps `DONE`, a worker `BUSY`, and Reset clears
both. -/
theorem completedCommandHoldsTheCrc : Obligations.CompletedCommandHoldsTheCrc := by
  intro s t inv busy crc h idle done
  cases turn : nextTurn s with
  | host =>
    obtain ⟨hflags, -⟩ := inv.flags
    rcases step_host_outcome s t h turn with ⟨hd, -⟩ | ⟨-, hd, -⟩
    · exact absurd ⟨busy, hd ▸ done⟩ hflags
    · simp [hd] at done
  | eng =>
    cases step_of_eng h turn
    have notBuild : s.op ≠ 4#4 := by
      rintro op
      simp [op] at crc
    obtain ⟨-, hresult, -⟩ := engStep_completes inv.takeTurn (by simpa using busy) idle
    rw [hresult (by simpa using notBuild)]
    simp
  | wrk w =>
    cases step_of_wrk h turn
    simp [busy] at idle
  | reset =>
    cases step_of_reset h turn
    simp at done

/-! ### The steps left -/

theorem stepsLeft_of_idle {s : State} (h : s.busy = false) : stepsLeft s = 0 := by
  simp [stepsLeft, h]

theorem busy_of_stepsLeft_pos {s : State} (h : 0 < stepsLeft s) : s.busy = true := by
  cases hb : s.busy
  · simp [stepsLeft_of_idle hb] at h
  · rfl

theorem stepsLeft_ref {s : State} (busy : s.busy = true) (op : s.op = 1#4) :
    stepsLeft s = refStepsLeft s := by
  have command : commandOf s.op = some .crcRef := (commandOf_eq_some _ _).2 op
  simp only [stepsLeft, busy, command, if_true]

theorem stepsLeft_fast {s : State} (busy : s.busy = true) (op : s.op = 2#4) :
    stepsLeft s = fastStepsLeft s := by
  have command : commandOf s.op = some .crcFast := (commandOf_eq_some _ _).2 op
  simp only [stepsLeft, busy, command, if_true]

theorem stepsLeft_batch {s : State} (busy : s.busy = true) (op : s.op = 3#4) :
    stepsLeft s = batchStepsLeft s := by
  have command : commandOf s.op = some .runBatch := (commandOf_eq_some _ _).2 op
  simp only [stepsLeft, busy, command, if_true]

theorem stepsLeft_build {s : State} (busy : s.busy = true) (op : s.op = 4#4) :
    stepsLeft s = buildStepsLeft s := by
  have command : commandOf s.op = some .tblBuild := (commandOf_eq_some _ _).2 op
  simp only [stepsLeft, busy, command, if_true]

theorem fastMicros_zero (len : Nat) : fastMicros 0 len = len / 8 + len % 8 := by
  unfold fastMicros
  split <;> omega

theorem fastMicros_consumed {pos len : Nat} (h : len ≤ pos) : fastMicros pos len = 0 := by
  unfold fastMicros
  split <;> omega

theorem fastMicros_bit {pos len : Nat} (more : pos < len) (trailing : len < pos + 8) :
    fastMicros pos len = fastMicros (pos + 1) len + 1 := by
  unfold fastMicros
  split_ifs <;> omega

theorem fastMicros_byte {pos len : Nat} (boundary : 8 * (pos / 8) = pos) (more : pos + 8 ≤ len) :
    fastMicros pos len = fastMicros (pos + 8) len + 1 := by
  unfold fastMicros
  split_ifs <;> omega

/-- What the count of the steps left rests on: that the cursor and the counters of a running command are
in order. It says nothing of the values computed, and so holds in states that the invariant does not. -/
structure Counted (s : State) : Prop where
  iterations : s.op = 3#4 → 1 ≤ s.iter.toNat
  pool : s.op = 3#4 → Config.parThreshold ≤ s.iter.toNat → 1 ≤ s.numWorkers
  aligned : s.phase = .compute → s.op ≠ 1#4 → CursorAligned s
  count : s.phase = .compute → s.op = 3#4 → s.icnt.toNat < s.iter.toNat
  waiting : s.op = 3#4 → s.phase = .join → Config.parThreshold ≤ s.iter.toNat

theorem Inv.counted {s : State} (h : Inv s) (busy : s.busy = true) : Counted s := by
  have hrun := h.running busy
  refine ⟨fun op => ?_, fun _ _ => h.pool.1, fun phase => (hrun.computing phase).2,
    fun phase op => ?_, fun op phase => ?_⟩
  · rw [running_iff_batch op] at hrun
    obtain ⟨-, ⟨hmin, -⟩, -⟩ := hrun
    exact hmin
  · obtain ⟨-, -, -, hcount, -⟩ := hrun.loop op phase
    exact hcount
  · obtain ⟨-, -, hpath, -⟩ := hrun.pool op phase
    exact hpath

/-- Each step of ENG keeps the cursor and the counters in order. -/
theorem Counted.engine {s t : State} (h : Counted s) (he : EngineEffect s t) : Counted t := by
  obtain ⟨iterations, pool, aligned, count, waiting⟩ := h
  cases he with
  | start op phase =>
    exact ⟨iterations, pool, fun _ _ => cursorAligned_beginComputation s,
      fun _ h3 => by rcases op with op | op <;> simp [op] at h3, by simp⟩
  | startLoop op phase path =>
    exact ⟨iterations, pool, fun _ _ => cursorAligned_beginComputation _, fun _ => iterations,
      fun _ => by simp [beginLoop]⟩
  | dispatch op phase path =>
    exact ⟨iterations, by simpa using pool, by simp, by simp, fun _ _ => path⟩
  | bit op phase more trailing =>
    exact ⟨iterations, pool,
      fun _ h1 => cursorAligned_bitMicro s (aligned phase h1) more (trailing h1), count, waiting⟩
  | byte op phase more =>
    exact ⟨iterations, pool, fun _ h1 => cursorAligned_byteMicro s (aligned phase h1) more, count,
      waiting⟩
  | count op phase consumed =>
    rcases countComputation_cases s with ⟨hn, he⟩ | ⟨-, he⟩ <;> rw [he]
    · exact ⟨iterations, pool, fun _ _ => cursorAligned_beginComputation _, fun _ _ => hn, by simp⟩
    · exact ⟨iterations, pool, by simp, by simp, by simp⟩
  | result | endLoop | join | built => exact ⟨iterations, pool, aligned, count, waiting⟩
  | fill => exact ⟨iterations, by simpa only [State.numWorkers] using pool, nofun, nofun, nofun⟩

/-! ### The shares of the workers -/

theorem sum_quota_range (n w m : Nat) :
    ((List.range m).map (quota n w)).sum = m * (n / w) + min m (n % w) := by
  induction m with
  | zero => simp
  | succ m ih =>
    rw [List.range_succ, List.map_append, List.sum_append, ih, List.map_singleton,
      List.sum_singleton, quota, Nat.succ_mul]
    split <;> omega

/-- The shares of all workers are the whole batch (43_batch_runner.md R124). -/
theorem sum_quota (n w : Nat) (hw : 1 ≤ w) : ((List.range w).map (quota n w)).sum = n := by
  rw [sum_quota_range, min_eq_right (Nat.mod_lt n hw).le, Nat.div_add_mod]

theorem quota_le (n w i : Nat) (hi : i < w) : quota n w i ≤ n := by
  calc quota n w i
      ≤ ((List.range w).map (quota n w)).sum :=
        List.single_le_sum (by simp) _ (List.mem_map_of_mem (List.mem_range.2 hi))
    _ = n := sum_quota n w (by omega)

/-- The dispatch gives a worker of the pool its share, as a number. -/
theorem assignQuota_quota (s : State) (w : Nat) (k : Worker) (hw : w < s.numWorkers) :
    (assignQuota s.iter.toNat s.numWorkers w k).quota.toNat = quota s.iter.toNat s.numWorkers w :=
  Nat.mod_eq_of_lt (lt_of_le_of_lt (quota_le _ _ _ hw) s.iter.isLt)

theorem assignQuota_stepsLeft (s : State) (w : Nat) (k : Worker) (hw : w < s.numWorkers) :
    (assignQuota s.iter.toNat s.numWorkers w k).stepsLeft =
      quota s.iter.toNat s.numWorkers w + 1 :=
  congrArg (· + 1) (assignQuota_quota s w k hw)

/-- A dispatched batch takes an iteration for each count of `ITER` and a final step for each worker. -/
theorem sum_stepsLeft_dispatchWorkers (s : State) (size : 1 ≤ s.numWorkers) :
    ((dispatchWorkers s).workers.map Worker.stepsLeft).sum = s.iter.toNat + s.numWorkers := by
  have each : (dispatchWorkers s).workers.map Worker.stepsLeft =
      (List.range s.numWorkers).map fun i => quota s.iter.toNat s.numWorkers i + 1 := by
    refine List.ext_getElem (by simp [State.numWorkers]) fun i hi _ => ?_
    have hw : i < s.numWorkers := by simpa [State.numWorkers] using hi
    simp [assignQuota_stepsLeft s i _ hw]
  rw [each, List.sum_map_add, sum_quota _ _ size]
  simp

/-! ### Each step lowers the count by one -/

section StepsLeft

variable {s : State} (busy : s.busy = true)
include busy

theorem stepsLeft_ref_start (op : s.op = 1#4) (phase : s.phase = .start) :
    stepsLeft s = s.len.toNat + 2 := by
  simp only [stepsLeft_ref busy op, refStepsLeft, phase]

theorem stepsLeft_ref_compute (op : s.op = 1#4) (phase : s.phase = .compute) :
    stepsLeft s = s.len.toNat - s.pos.toNat + 1 := by
  simp only [stepsLeft_ref busy op, refStepsLeft, phase]

theorem stepsLeft_fast_start (op : s.op = 2#4) (phase : s.phase = .start) :
    stepsLeft s = fastMicros 0 s.len.toNat + 2 := by
  simp only [stepsLeft_fast busy op, fastStepsLeft, phase]

theorem stepsLeft_fast_compute (op : s.op = 2#4) (phase : s.phase = .compute) :
    stepsLeft s = fastMicros s.pos.toNat s.len.toNat + 1 := by
  simp only [stepsLeft_fast busy op, fastStepsLeft, phase]

theorem stepsLeft_loop_start (op : s.op = 3#4) (phase : s.phase = .start)
    (path : s.iter.toNat < Config.parThreshold) :
    stepsLeft s = s.iter.toNat * (fastMicros 0 s.len.toNat + 1) + 2 := by
  simp only [stepsLeft_batch busy op, batchStepsLeft, phase]
  rcases batchPath_cases s.iter.toNat with ⟨-, hp | hp⟩ | ⟨hn, -⟩
  · rw [hp]
  · rw [hp]
  · omega

theorem stepsLeft_parallel_start (op : s.op = 3#4) (phase : s.phase = .start)
    (path : Config.parThreshold ≤ s.iter.toNat) :
    stepsLeft s = s.iter.toNat + s.numWorkers + 2 := by
  simp only [stepsLeft_batch busy op, batchStepsLeft, phase, (batchPath_parallel _).2 path]

theorem stepsLeft_loop_compute (op : s.op = 3#4) (phase : s.phase = .compute) :
    stepsLeft s = fastMicros s.pos.toNat s.len.toNat + 1 +
      (s.iter.toNat - s.icnt.toNat - 1) * (fastMicros 0 s.len.toNat + 1) + 1 := by
  simp only [stepsLeft_batch busy op, batchStepsLeft, phase]

theorem stepsLeft_loop_finish (op : s.op = 3#4) (phase : s.phase = .finish) : stepsLeft s = 1 := by
  simp only [stepsLeft_batch busy op, batchStepsLeft, phase]

theorem stepsLeft_parallel_join (op : s.op = 3#4) (phase : s.phase = .join) :
    stepsLeft s = (s.workers.map Worker.stepsLeft).sum + 1 := by
  simp only [stepsLeft_batch busy op, batchStepsLeft, phase]

theorem stepsLeft_build_start (op : s.op = 4#4) (phase : s.phase = .start) : stepsLeft s = 2 := by
  simp only [stepsLeft_build busy op, buildStepsLeft, phase]

theorem stepsLeft_build_finish (op : s.op = 4#4) (phase : s.phase = .finish) : stepsLeft s = 1 := by
  simp only [stepsLeft_build busy op, buildStepsLeft, phase]

end StepsLeft

/-- A step is left exactly in the phases a command passes through. -/
theorem stepsLeft_pos_iff (s : State) :
    0 < stepsLeft s ↔ s.busy = true ∧
      ((s.op = 1#4 ∨ s.op = 2#4) ∧ (s.phase = .start ∨ s.phase = .compute) ∨ s.op = 3#4 ∨
        s.op = 4#4 ∧ (s.phase = .start ∨ s.phase = .finish)) := by
  cases busy : s.busy
  · simp [stepsLeft_of_idle busy]
  cases hc : commandOf s.op with
  | none =>
    have ne (c : Command) : s.op ≠ c.code := fun op => by simp [op] at hc
    have h1 : s.op ≠ 1#4 := ne .crcRef
    have h2 : s.op ≠ 2#4 := ne .crcFast
    have h3 : s.op ≠ 3#4 := ne .runBatch
    have h4 : s.op ≠ 4#4 := ne .tblBuild
    simp [stepsLeft, busy, hc, h1, h2, h3, h4]
  | some c =>
    have op := (commandOf_eq_some s.op c).1 hc
    cases c with
    | crcRef =>
      rw [stepsLeft_ref busy op, refStepsLeft, op]
      cases s.phase <;> simp [Command.code]
    | crcFast =>
      rw [stepsLeft_fast busy op, fastStepsLeft, op]
      cases s.phase <;> simp [Command.code]
    | tblBuild =>
      rw [stepsLeft_build busy op, buildStepsLeft, op]
      cases s.phase <;> simp [Command.code]
    | runBatch =>
      have pos : 0 < batchStepsLeft s := by
        unfold batchStepsLeft
        cases s.phase with
        | start => cases batchPath s.iter.toNat <;> exact Nat.succ_pos _
        | compute | finish | join => exact Nat.succ_pos _
      simp [stepsLeft_batch busy op, pos, op, Command.code]

/-- A bit consumed lowers the count by one, whichever command consumes it. -/
theorem stepsLeft_bitMicro {s : State} (busy : s.busy = true)
    (op : s.op = 1#4 ∨ s.op = 2#4 ∨ s.op = 3#4) (phase : s.phase = .compute)
    (more : s.pos.toNat < s.len.toNat) (trailing : s.op ≠ 1#4 → s.len.toNat < s.pos.toNat + 8) :
    stepsLeft s = stepsLeft (bitMicro s) + 1 := by
  have hpos : (s.pos + 1#7).toNat = s.pos.toNat + 1 := pos_add_toNat s 1#7 more
  have after : (bitMicro s).busy = true := busy
  rcases op with op | op | op
  · rw [stepsLeft_ref_compute busy op phase, stepsLeft_ref_compute after op phase, bitMicro_pos,
      bitMicro_len, hpos]
    omega
  · rw [stepsLeft_fast_compute busy op phase, stepsLeft_fast_compute after op phase, bitMicro_pos,
      bitMicro_len, hpos, fastMicros_bit more (trailing (by simp [op]))]
  · rw [stepsLeft_loop_compute busy op phase, stepsLeft_loop_compute after op phase, bitMicro_pos,
      bitMicro_len, bitMicro_iter, bitMicro_icnt, hpos, fastMicros_bit more (trailing (by simp [op]))]
    omega

theorem stepsLeft_byteMicro {s : State} (busy : s.busy = true) (op : s.op = 2#4 ∨ s.op = 3#4)
    (phase : s.phase = .compute) (aligned : CursorAligned s)
    (more : s.pos.toNat + 8 ≤ s.len.toNat) : stepsLeft s = stepsLeft (byteMicro s) + 1 := by
  have hpos : (s.pos + 8#7).toNat = s.pos.toNat + 8 := pos_add_toNat s 8#7 more
  have after : (byteMicro s).busy = true := busy
  have micros := fastMicros_byte (aligned.boundary more) more
  rcases op with op | op
  · rw [stepsLeft_fast_compute busy op phase, stepsLeft_fast_compute after op phase, byteMicro_pos,
      byteMicro_len, hpos, micros]
  · rw [stepsLeft_loop_compute busy op phase, stepsLeft_loop_compute after op phase, byteMicro_pos,
      byteMicro_len, byteMicro_iter, byteMicro_icnt, hpos, micros]
    omega

theorem stepsLeft_countComputation {s : State} (busy : s.busy = true) (op : s.op = 3#4)
    (phase : s.phase = .compute) (consumed : s.len.toNat ≤ s.pos.toNat)
    (count : s.icnt.toNat < s.iter.toNat) : stepsLeft s = stepsLeft (countComputation s) + 1 := by
  have hicnt : (s.icnt + 1#64).toNat = s.icnt.toNat + 1 :=
    BitVec.toNat_add_of_lt (lt_of_le_of_lt count s.iter.isLt)
  rw [stepsLeft_loop_compute busy op phase, fastMicros_consumed consumed]
  rcases countComputation_cases s with ⟨hn, he⟩ | ⟨hn, he⟩ <;> rw [he]
  · have more : s.iter.toNat - s.icnt.toNat - 1 = s.iter.toNat - (s.icnt.toNat + 1) - 1 + 1 := by
      omega
    rw [stepsLeft_loop_compute (s := beginComputation { s with icnt := s.icnt + 1#64 }) busy op rfl]
    simp only [beginComputation_pos, beginComputation_len, beginComputation_iter,
      beginComputation_icnt, hicnt, BitVec.toNat_zero, more, Nat.succ_mul]
    omega
  · have last : s.iter.toNat - s.icnt.toNat - 1 = 0 := by omega
    rw [stepsLeft_loop_finish (s := { s with icnt := s.icnt + 1#64, phase := .finish }) busy op rfl,
      last]
    omega

theorem stepsLeft_beginLoop {s : State} (busy : s.busy = true) (op : s.op = 3#4)
    (phase : s.phase = .start) (path : s.iter.toNat < Config.parThreshold)
    (iterations : 1 ≤ s.iter.toNat) : stepsLeft s = stepsLeft (beginLoop s) + 1 := by
  obtain ⟨n, hn⟩ := Nat.exists_eq_add_of_le' iterations
  rw [stepsLeft_loop_start busy op phase path, beginLoop,
    stepsLeft_loop_compute (s := beginComputation { s with icnt := 0#64 }) busy op rfl]
  simp [hn, Nat.succ_mul]
  omega

theorem stepsLeft_complete (s : State) : stepsLeft (complete s) = 0 := stepsLeft_of_idle rfl

/-- Each step of ENG on a running command lowers the count by one. -/
theorem Counted.lowers {s t : State} (h : Counted s) (busy : s.busy = true)
    (left : 0 < stepsLeft s) (he : EngineEffect s t) : stepsLeft s = stepsLeft t + 1 := by
  cases he with
  | start op phase =>
    have after : (beginComputation s).busy = true := busy
    rcases op with op | op
    · rw [stepsLeft_ref_start busy op phase, stepsLeft_ref_compute after op rfl]
      simp
    · rw [stepsLeft_fast_start busy op phase, stepsLeft_fast_compute after op rfl]
      simp
  | startLoop op phase path => exact stepsLeft_beginLoop busy op phase path (h.iterations op)
  | dispatch op phase path =>
    rw [stepsLeft_parallel_start busy op phase path,
      stepsLeft_parallel_join (s := dispatchWorkers s) busy op rfl,
      sum_stepsLeft_dispatchWorkers s (h.pool op path)]
  | bit op phase more trailing =>
    refine stepsLeft_bitMicro busy ?_ phase more trailing
    obtain ⟨-, ⟨op, -⟩ | op | ⟨op', -⟩⟩ := (stepsLeft_pos_iff s).1 left
    · exact op.imp_right .inl
    · exact .inr (.inr op)
    · exact absurd op' op
  | byte op phase more =>
    have notRef : s.op ≠ 1#4 := by rcases op with op | op <;> simp [op]
    exact stepsLeft_byteMicro busy op phase (h.aligned phase notRef) more
  | count op phase consumed =>
    exact stepsLeft_countComputation busy op phase consumed (h.count phase op)
  | result op phase consumed =>
    rw [stepsLeft_complete]
    rcases op with op | op
    · rw [stepsLeft_ref_compute busy op phase, Nat.sub_eq_zero_of_le consumed]
    · rw [stepsLeft_fast_compute busy op phase, fastMicros_consumed consumed]
  | endLoop op phase => rw [stepsLeft_complete, stepsLeft_loop_finish busy op phase]
  | join op phase finished =>
    have none_left : (s.workers.map Worker.stepsLeft).sum = 0 := by
      refine List.sum_eq_zero fun n hn => ?_
      obtain ⟨k, hk, rfl⟩ := List.mem_map.1 hn
      simp [Worker.stepsLeft, (allFinished_iff s).1 finished k hk]
    rw [stepsLeft_complete, stepsLeft_parallel_join busy op phase, none_left]
  | fill op phase =>
    rw [stepsLeft_build_start busy op phase,
      stepsLeft_build_finish (s := { s with tbl := canonTable, phase := .finish }) busy op rfl]
  | built op phase => rw [stepsLeft_complete, stepsLeft_build_finish busy op phase]


/-- A running command has a step left. -/
theorem Inv.stepsLeft_pos {s : State} (h : Inv s) (busy : s.busy = true) : 0 < stepsLeft s := by
  have hrun := h.running busy
  refine (stepsLeft_pos_iff s).2 ⟨busy, ?_⟩
  rcases hrun.op_cases with op | op | op | op
  · obtain ⟨-, phase⟩ := (running_iff_ref op).1 hrun
    exact .inl ⟨.inl op, phase.imp_right And.left⟩
  · obtain ⟨-, phase⟩ := (running_iff_fast op).1 hrun
    exact .inl ⟨.inr op, phase.imp_right And.left⟩
  · exact .inr (.inl op)
  · exact .inr (.inr ⟨op, (running_iff_build op).1 hrun⟩)

/-- A step of ENG that does not clear `BUSY` leaves a step to do. -/
theorem EngineEffect.stepsLeft_pos {s t : State} (he : EngineEffect s t) (left : 0 < stepsLeft s)
    (busy : t.busy = true) : 0 < stepsLeft t := by
  obtain ⟨-, hs⟩ := (stepsLeft_pos_iff s).1 left
  refine (stepsLeft_pos_iff t).2 ⟨busy, ?_⟩
  cases he with
  | start op => exact .inl ⟨op, .inr rfl⟩
  | startLoop op | dispatch op | endLoop op | join op => exact .inr (.inl op)
  | bit op phase | byte op phase =>
    obtain h | h | ⟨h, -⟩ := hs
    · exact .inl h
    · exact .inr (.inl h)
    · simp [h] at op
  | count op =>
    obtain ⟨r, p, n, ph, hc⟩ := countComputation_advance s
    rw [hc]
    exact .inr (.inl op)
  | fill op => exact .inr (.inr ⟨op, .inr rfl⟩)
  | result | built => simp at busy

/-! ### ENG moves while a step is left -/

theorem engStep_crcRef {s : State} (busy : s.busy = true) (op : s.op = 1#4) :
    engStep s = crcRefStep s := by
  have command : commandOf s.op = some .crcRef := (commandOf_eq_some _ _).2 op
  simp [engStep, busy, command]

theorem engStep_crcFast {s : State} (busy : s.busy = true) (op : s.op = 2#4) :
    engStep s = crcFastStep s := by
  have command : commandOf s.op = some .crcFast := (commandOf_eq_some _ _).2 op
  simp [engStep, busy, command]

theorem engStep_runBatch {s : State} (busy : s.busy = true) (op : s.op = 3#4) :
    engStep s = runBatchStep s := by
  have command : commandOf s.op = some .runBatch := (commandOf_eq_some _ _).2 op
  simp [engStep, busy, command]

/-- In a computation of the fast path every step does something, if the step behind it does. -/
theorem fastBody_effect {s : State} {after : State → State} (op : s.op = 2#4 ∨ s.op = 3#4)
    (phase : s.phase = .compute) (last : s.len.toNat ≤ s.pos.toNat → EngineEffect s (after s)) :
    EngineEffect s (fastBody after s) := by
  rcases fastBody_cases after s with ⟨more, he⟩ | ⟨trailing, more, he⟩ | ⟨consumed, he⟩ <;> rw [he]
  · exact .byte op phase more
  · exact .bit (by rcases op with op | op <;> simp [op]) phase more fun _ => trailing
  · exact last consumed

/-- While a step is left, ENG does something, except while it waits for a join. -/
theorem engStep_effect_of_stepsLeft_pos {s : State} (left : 0 < stepsLeft s)
    (ready : s.op = 3#4 → s.phase = .join → allFinished s = true) : EngineEffect s (engStep s) := by
  obtain ⟨busy, ⟨op | op, phase | phase⟩ | op | ⟨op, phase | phase⟩⟩ := (stepsLeft_pos_iff s).1 left
  · rw [engStep_crcRef busy op]
    simp only [crcRefStep, phase]
    exact .start (.inl op) phase
  · rw [engStep_crcRef busy op]
    simp only [crcRefStep, phase]
    split_ifs with more
    · exact .bit (by simp [op]) phase more (absurd op)
    · exact .result (.inl op) phase (Nat.le_of_not_lt more)
  · rw [engStep_crcFast busy op]
    simp only [crcFastStep, phase]
    exact .start (.inr op) phase
  · rw [engStep_crcFast busy op]
    simp only [crcFastStep, phase]
    exact fastBody_effect (.inl op) phase (.result (.inr op) phase)
  · rw [engStep_runBatch busy op, runBatchStep]
    cases phase : s.phase with
    | start =>
      rcases batchPath_cases s.iter.toNat with ⟨path, hp | hp⟩ | ⟨path, hp⟩ <;> rw [hp]
      · exact .startLoop op phase path
      · exact .startLoop op phase path
      · exact .dispatch op phase path
    | compute => exact fastBody_effect (.inr op) phase (.count op phase)
    | finish => exact .endLoop op phase
    | join =>
      dsimp only
      rw [if_pos (ready op phase)]
      exact .join op phase (ready op phase)
  · rw [engStep_tblBuild s busy op]
    simp only [tblBuildStep, phase]
    exact .fill op phase
  · rw [engStep_tblBuild s busy op]
    simp only [tblBuildStep, phase]
    exact .built op phase

/-! ### A command that ENG runs alone -/

/-- The command in progress needs no worker: it is no batch, or one below the threshold. -/
def EngineOnly (s : State) : Prop :=
  s.op = 3#4 → s.iter.toNat < Config.parThreshold

theorem EngineOnly.engStep {s : State} (h : EngineOnly s) : EngineOnly (engStep s) := by
  unfold EngineOnly
  rw [engStep_op, engStep_iter]
  exact h

theorem engineOnly_of_not_batch {s : State} (h : s.op ≠ 3#4) : EngineOnly s := fun op => absurd op h

/-- ENG never waits for a join of a command that needs no worker. -/
theorem Counted.effect {s : State} (h : Counted s) (alone : EngineOnly s) (left : 0 < stepsLeft s) :
    EngineEffect s (engStep s) :=
  engStep_effect_of_stepsLeft_pos left fun op phase =>
    absurd (alone op) (Nat.not_lt.2 (h.waiting op phase))

/-- A run of ENG alone: as many steps as are left, each lowering their number by one. -/
theorem Counted.iterate {s : State} (h : Counted s) (alone : EngineOnly s) (k : Nat)
    (hk : k ≤ stepsLeft s) :
    Counted (engStep^[k] s) ∧ EngineOnly (engStep^[k] s) ∧
      stepsLeft (engStep^[k] s) + k = stepsLeft s := by
  induction k with
  | zero => exact ⟨h, alone, rfl⟩
  | succ k ih =>
    obtain ⟨counted, alone', count⟩ := ih (by omega)
    have left : 0 < stepsLeft (engStep^[k] s) := by omega
    have effect := counted.effect alone' left
    have lowered := counted.lowers (busy_of_stepsLeft_pos left) left effect
    rw [Function.iterate_succ_apply']
    exact ⟨counted.engine effect, alone'.engStep, by omega⟩

theorem Counted.iterate_busy {s : State} (h : Counted s) (alone : EngineOnly s) (k : Nat)
    (hk : k < stepsLeft s) : (engStep^[k] s).busy = true := by
  obtain ⟨-, -, count⟩ := h.iterate alone k hk.le
  exact busy_of_stepsLeft_pos (by omega)

/-- The last of the counted steps, before which the block is busy, is the completion. -/
theorem Counted.iterate_last {s : State} (h : Counted s) (alone : EngineOnly s) (n : Nat)
    (hn : stepsLeft s = n + 1) :
    (engStep^[n] s).busy = true ∧ (engStep (engStep^[n] s)).busy = false ∧
      (engStep (engStep^[n] s)).done = true := by
  obtain ⟨counted, alone', count⟩ := h.iterate alone n (by omega)
  have left : 0 < stepsLeft (engStep^[n] s) := by omega
  have busy := busy_of_stepsLeft_pos left
  have effect := counted.effect alone' left
  have lowered := counted.lowers busy left effect
  rcases engStep_outcome (engStep^[n] s) with ⟨hb, -⟩ | ⟨-, hb, hd, -⟩
  · have more := effect.stepsLeft_pos left (hb.trans busy)
    omega
  · exact ⟨busy, hb, hd⟩

/-- The counted number of steps of ENG completes the command. -/
theorem Counted.iterate_done {s : State} (h : Counted s) (alone : EngineOnly s)
    (left : 0 < stepsLeft s) :
    (engStep^[stepsLeft s] s).busy = false ∧
      (engStep^[stepsLeft s] s).done = true := by
  obtain ⟨n, hn⟩ := Nat.exists_eq_add_of_le' left
  obtain ⟨-, idle, done⟩ := h.iterate_last alone n hn
  rw [hn, Function.iterate_succ_apply']
  exact ⟨idle, done⟩

theorem SameInput.sequence {s t : State} (h : SameInput s t) : t.sequence = s.sequence := by
  simp only [State.sequence, h.bits, h.len]

theorem engStep_iterate_sameInput (k : Nat) (s : State) : SameInput s (engStep^[k] s) := by
  induction k with
  | zero => exact ⟨rfl, rfl, rfl, rfl⟩
  | succ k ih =>
    rw [Function.iterate_succ_apply']
    exact ih.trans (engStep_sameInput _)

theorem Inv.iterate {s : State} (h : Inv s) (k : Nat) : Inv (Machine.engStep^[k] s) :=
  Function.Iterate.rec Inv h (fun _ => Inv.engStep) k

/-- What the counted steps of ENG leave, from a state that meets the invariant. -/
theorem engStep_iterate_completes {s : State} (h : Inv s) (busy : s.busy = true)
    (alone : EngineOnly s) :
    (engStep^[stepsLeft s] s).busy = false ∧ (engStep^[stepsLeft s] s).done = true ∧
      (s.op ≠ 4#4 → (engStep^[stepsLeft s] s).result = crcWord (crcRef s.sequence)) ∧
      (s.op = 3#4 → (engStep^[stepsLeft s] s).icnt = s.iter) := by
  have counted := h.counted busy
  obtain ⟨n, hn⟩ := Nat.exists_eq_add_of_le' (h.stepsLeft_pos busy)
  obtain ⟨hbusy, idle, done⟩ := counted.iterate_last alone n hn
  obtain ⟨hcounted, halone, -⟩ := counted.iterate alone n (by omega)
  have same := engStep_iterate_sameInput n s
  obtain ⟨-, hresult, hicnt⟩ := engStep_completes (h.iterate n) hbusy idle
  rw [same.op, same.sequence] at hresult
  rw [same.op, same.iter] at hicnt
  rw [hn, Function.iterate_succ_apply']
  refine ⟨idle, done, hresult, fun op => hicnt op fun phase => ?_⟩
  have op' := same.op.trans op
  exact absurd (halone op') (Nat.not_lt.2 (hcounted.waiting op' phase))

/-! ### Runs by turns of the agents -/

theorem countComputation_withTurns (s : State) (ts : List Turn) :
    countComputation { s with turns := ts } = { countComputation s with turns := ts } := by
  unfold countComputation
  dsimp only
  split_ifs <;> rfl

theorem fastBody_withTurns {after : State → State} {s : State} {ts : List Turn}
    (h : after { s with turns := ts } = { after s with turns := ts }) :
    fastBody after { s with turns := ts } = { fastBody after s with turns := ts } := by
  unfold fastBody
  dsimp only
  split_ifs
  · rfl
  · rfl
  · exact h

theorem runBatchStep_withTurns (s : State) (ts : List Turn) :
    runBatchStep { s with turns := ts } = { runBatchStep s with turns := ts } := by
  unfold runBatchStep
  dsimp only
  split
  case h_1 => split <;> rfl
  case h_2 => exact fastBody_withTurns (countComputation_withTurns s ts)
  case h_3 => rfl
  case h_4 =>
    have hall : allFinished { s with turns := ts } = allFinished s := rfl
    rw [hall]
    split_ifs <;> rfl

/-- ENG does not see whose turns come after its own. -/
theorem engStep_withTurns (s : State) (ts : List Turn) :
    engStep { s with turns := ts } = { engStep s with turns := ts } := by
  unfold engStep
  dsimp only
  split_ifs
  · split
    case h_1 =>
      unfold crcRefStep
      dsimp only
      split <;> (try split_ifs) <;> rfl
    case h_2 =>
      unfold crcFastStep
      dsimp only
      split
      case h_2 => exact fastBody_withTurns rfl
      all_goals rfl
    case h_3 => exact runBatchStep_withTurns s ts
    case h_4 =>
      unfold tblBuildStep
      dsimp only
      split <;> rfl
    case h_5 => rfl
  · rfl

theorem workerStep_withTurns (w : Nat) (s : State) (ts : List Turn) :
    workerStep w { s with turns := ts } = { workerStep w s with turns := ts } := by
  have hrun : workersRun { s with turns := ts } = workersRun s := rfl
  unfold workerStep
  rw [hrun]
  dsimp only
  split_ifs
  · split
    · rfl
    · split_ifs <;> rfl
  · rfl


/-- No agent behind the boundary sees whose turns come after its own. -/
theorem agentStep_withTurns (a : Turn) (s : State) (ts : List Turn) :
    agentStep a { s with turns := ts } = { agentStep a s with turns := ts } := by
  cases a with
  | eng => exact engStep_withTurns s ts
  | wrk w => exact workerStep_withTurns w s ts
  | host | reset => rfl

/-- What the turns of some agents, in their order, make of a state. -/
def afterTurns (agents : List Turn) (s : State) : State :=
  agents.foldl (fun s a => agentStep a s) s

theorem afterTurns_replicate_eng (n : Nat) (s : State) :
    afterTurns (List.replicate n .eng) s = engStep^[n] s := by
  induction n generalizing s with
  | zero => rfl
  | succ n ih => exact ih (engStep s)

/-- The turn of an agent behind the boundary is a step of that agent. -/
theorem step_agentTurn (a : Turn) (ha : isAgentTurn a = true) (s : State) (rest : List Turn) :
    step { s with turns := a :: rest } = .next { agentStep a s with turns := rest } := by
  rw [← agentStep_withTurns a s rest]
  cases a with
  | eng | wrk w => rfl
  | host | reset => simp [isAgentTurn] at ha

theorem run_agentTurns (agents : List Turn) (h : ∀ a ∈ agents, isAgentTurn a = true) (s : State)
    (rest : List Turn) :
    core.run agents.length { s with turns := agents ++ rest } =
      .next { afterTurns agents s with turns := rest } := by
  induction agents generalizing s with
  | nil => rfl
  | cons a agents ih =>
    obtain ⟨ha, hagents⟩ := List.forall_mem_cons.1 h
    have first : core.step { s with turns := a :: agents ++ rest } =
        .next { agentStep a s with turns := agents ++ rest } := step_agentTurn a ha s _
    simp only [List.length_cons, Host.Core.run, first]
    exact ih hagents (agentStep a s)

/-- A run of ENG's turns alone. -/
theorem run_engTurns (n : Nat) (s : State) (rest : List Turn) :
    core.run n { s with turns := List.replicate n .eng ++ rest } =
      .next { engStep^[n] s with turns := rest } := by
  have h := run_agentTurns (List.replicate n .eng)
    (fun a ha => by rw [List.eq_of_mem_replicate ha]; rfl) s rest
  rwa [List.length_replicate, afterTurns_replicate_eng] at h

/-- Settles O43: the run is that number of steps of ENG, the last of which completes the command. -/
theorem engineAloneCompletes : Obligations.EngineAloneCompletes := by
  intro s rest inv busy alone turns
  obtain ⟨idle, done, result, icnt⟩ := engStep_iterate_completes inv busy alone
  refine ⟨{ engStep^[stepsLeft s] s with turns := rest }, ?_, idle, done, rfl, fun op => ?_, icnt⟩
  · rw [← run_engTurns, ← turns]
  · rw [← crcWord_toNat, ← result op]

/-! ### Which steps a command takes -/

/-- At its start a command is counted, whatever stands in the cursor and the counter. -/
theorem counted_of_start {s : State} (phase : s.phase = .start)
    (iterations : s.op = 3#4 → 1 ≤ s.iter.toNat) (alone : EngineOnly s) : Counted s where
  iterations := iterations
  pool := fun op path => absurd (alone op) (Nat.not_lt.2 path)
  aligned := by simp [phase]
  count := by simp [phase]
  waiting := by simp [phase]

/-- From its start on, `CRC_REF` takes bit steps until only the completion is left. -/
theorem engStep_iterate_ref {s : State} (busy : s.busy = true) (op : s.op = 1#4)
    (phase : s.phase = .start) (k : Nat) (hk : k < s.len.toNat) :
    engStep^[k + 2] s = bitMicro (engStep^[k + 1] s) := by
  have total := stepsLeft_ref_start busy op phase
  have alone : EngineOnly s := engineOnly_of_not_batch (by simp [op])
  have counted : Counted s := counted_of_start phase (by simp [op]) alone
  obtain ⟨-, -, count⟩ := counted.iterate alone (k + 1) (by omega)
  have same := engStep_iterate_sameInput (k + 1) s
  rw [Function.iterate_succ_apply']
  generalize engStep^[k + 1] s = t at count same
  have op' : t.op = 1#4 := same.op.trans op
  have left : 0 < stepsLeft t := by omega
  have busy' := busy_of_stepsLeft_pos left
  obtain ⟨-, ⟨-, phase' | phase'⟩ | h | ⟨h, -⟩⟩ := (stepsLeft_pos_iff t).1 left
  · rw [stepsLeft_ref_start busy' op' phase', same.len] at count
    omega
  · rw [stepsLeft_ref_compute busy' op' phase', same.len] at count
    have more : t.pos.toNat < t.len.toNat := by rw [same.len]; omega
    simp [engStep_crcRef busy' op', crcRefStep, phase', more]
  · simp [op'] at h
  · simp [op'] at h

/-- With an aligned cursor, a whole byte is left when more micro-operations are left than the trailing
bits take. -/
theorem CursorAligned.byte_left_iff {s : State} (h : CursorAligned s) :
    s.pos.toNat + 8 ≤ s.len.toNat ↔ s.len.toNat % 8 < fastMicros s.pos.toNat s.len.toNat := by
  unfold CursorAligned at h
  unfold fastMicros
  split_ifs <;> omega

theorem fastMicros_pos_iff (pos len : Nat) : 0 < fastMicros pos len ↔ pos < len := by
  unfold fastMicros
  split_ifs <;> omega

/-- From its start on, `CRC_FAST` takes a byte step for each whole byte, and then bit steps until only
the completion is left. -/
theorem engStep_iterate_fast {s : State} (busy : s.busy = true) (op : s.op = 2#4)
    (phase : s.phase = .start) (k : Nat) (hk : k < s.len.toNat / 8 + s.len.toNat % 8) :
    engStep^[k + 2] s = if k < s.len.toNat / 8 then byteMicro (engStep^[k + 1] s)
      else bitMicro (engStep^[k + 1] s) := by
  have total := stepsLeft_fast_start busy op phase
  rw [fastMicros_zero] at total
  have alone : EngineOnly s := engineOnly_of_not_batch (by simp [op])
  have counted : Counted s := counted_of_start phase (by simp [op]) alone
  obtain ⟨counted', -, count⟩ := counted.iterate alone (k + 1) (by omega)
  have same := engStep_iterate_sameInput (k + 1) s
  rw [Function.iterate_succ_apply']
  generalize engStep^[k + 1] s = t at counted' count same
  have op' : t.op = 2#4 := same.op.trans op
  have left : 0 < stepsLeft t := by omega
  have busy' := busy_of_stepsLeft_pos left
  obtain ⟨-, ⟨-, phase' | phase'⟩ | h | ⟨h, -⟩⟩ := (stepsLeft_pos_iff t).1 left
  · rw [stepsLeft_fast_start busy' op' phase', fastMicros_zero, same.len] at count
    omega
  · rw [stepsLeft_fast_compute busy' op' phase', total] at count
    have byte := (counted'.aligned phase' (by simp [op'])).byte_left_iff
    have bit := fastMicros_pos_iff t.pos.toNat t.len.toNat
    rw [same.len] at byte bit count
    have whole : t.pos.toNat + 8 ≤ s.len.toNat ↔ k < s.len.toNat / 8 := by omega
    have more : t.pos.toNat < s.len.toNat := by omega
    simp only [engStep_crcFast busy' op', crcFastStep, phase', fastBody, same.len, whole, more, if_true]
  · simp [op'] at h
  · simp [op'] at h

/-! ### The turns of one worker -/

/-- A worker's own elements after its turn, whatever the table and the sequence are. -/
theorem workerStep_workers {s : State} (run : workersRun s = true) {w : Nat} {k : Worker}
    (hk : s.workers[w]? = some k) :
    (workerStep w s).workers = s.workers.set w (k.turn (crcFast s.tbl s.sequence)) := by
  have keep : s.workers = s.workers.set w k := by
    obtain ⟨hlt, rfl⟩ := List.getElem?_eq_some_iff.1 hk
    exact (List.set_getElem_self hlt).symm
  unfold workerStep Worker.turn
  rw [if_pos run]
  simp only [hk]
  split_ifs
  · exact keep
  · rfl
  · rfl
  · exact keep

/-- A worker whose batch was dispatched `j` of its turns ago (43_batch_runner.md R126). -/
def Worker.TurnsTaken (j : Nat) (k : Worker) : Prop :=
  k.count.toNat = min j k.quota.toNat ∧ (k.fin = true ↔ k.quota.toNat < j)

theorem Worker.TurnsTaken.turn {j : Nat} {k : Worker} (h : k.TurnsTaken j) (crc : Crc15) :
    (k.turn crc).TurnsTaken (j + 1) := by
  obtain ⟨count, fin⟩ := h
  unfold Worker.turn
  split_ifs with hfin hlt heq
  · have past := fin.1 hfin
    exact ⟨by omega, iff_of_true hfin (by omega)⟩
  · have hcount : (k.count + 1#64).toNat = k.count.toNat + 1 :=
      BitVec.toNat_add_of_lt (lt_of_le_of_lt hlt k.quota.isLt)
    exact ⟨hcount.trans (by simp only; omega), iff_of_false hfin (by simp only; omega)⟩
  · have notPast := fin.not.1 hfin
    have spent := congrArg BitVec.toNat heq
    exact ⟨by simp only; omega, iff_of_true rfl (by simp only; omega)⟩
  · have notPast := fin.not.1 hfin
    exact absurd (BitVec.eq_of_toNat_eq (by omega)) heq

theorem Worker.turn_quota (crc : Crc15) (k : Worker) : (k.turn crc).quota = k.quota := by
  unfold Worker.turn
  split_ifs <;> rfl

/-- `j` turns of a worker of a dispatched batch. -/
theorem workerStep_iterate {s : State} (run : workersRun s = true) {w : Nat} {k : Worker}
    (hk : s.workers[w]? = some k) (fresh : k.TurnsTaken 0) (j : Nat) :
    workersRun ((workerStep w)^[j] s) = true ∧
      ∃ k', ((workerStep w)^[j] s).workers[w]? = some k' ∧ k'.quota = k.quota ∧ k'.TurnsTaken j := by
  induction j with
  | zero => exact ⟨run, k, hk, rfl, fresh⟩
  | succ j ih =>
    obtain ⟨run', k', hk', quota, taken⟩ := ih
    have hlt := (List.getElem?_eq_some_iff.1 hk').1
    rw [Function.iterate_succ_apply', workersRun_workerStep, workerStep_workers run' hk',
      List.getElem?_set_self hlt]
    exact ⟨run', _, rfl, (Worker.turn_quota _ k').trans quota, taken.turn _⟩

theorem engStep_parallel_start {s : State} (busy : s.busy = true) (op : s.op = 3#4)
    (phase : s.phase = .start) (path : Config.parThreshold ≤ s.iter.toNat) :
    engStep s = dispatchWorkers s := by
  simp only [engStep_runBatch busy op, runBatchStep, phase, (batchPath_parallel _).2 path]

/-- After the dispatch a worker's own turns alone take it through its share and its final step. -/
theorem dispatched_worker_turns {s : State} (busy : s.busy = true) (op : s.op = 3#4) (w : Nat)
    (hw : w < s.numWorkers) (j : Nat) :
    ∃ k : Worker, ((workerStep w)^[j] (dispatchWorkers s)).workers[w]? = some k ∧
      k.quota.toNat = quota s.iter.toNat s.numWorkers w ∧ k.TurnsTaken j := by
  have run : workersRun (dispatchWorkers s) = true := (workersRun_iff _).2 ⟨busy, op, rfl⟩
  have hk : (dispatchWorkers s).workers[w]? =
      some (assignQuota s.iter.toNat s.numWorkers w (s.workers[w]'hw)) := by
    rw [dispatchWorkers_workers, List.getElem?_mapIdx, List.getElem?_eq_getElem hw, Option.map_some]
  have fresh : (assignQuota s.iter.toNat s.numWorkers w (s.workers[w]'hw)).TurnsTaken 0 :=
    ⟨(Nat.zero_min _).symm, iff_of_false Bool.false_ne_true (Nat.not_lt_zero _)⟩
  obtain ⟨-, k, hk', quota, taken⟩ := workerStep_iterate run hk fresh j
  exact ⟨k, hk', by rw [quota, assignQuota_quota s w _ hw], taken⟩

/-- Settles O44. For `CRC_REF` and `CRC_FAST` the number of steps left says which step comes next. -/
theorem commandStepCounts : Obligations.CommandStepCounts := by
  intro s busy phase fits bytes trailing
  refine ⟨fun op => ?_, fun op => ?_, fun op hmin hmax => ?_, fun op path => ?_⟩
  · have alone : EngineOnly s := engineOnly_of_not_batch (by simp [op])
    have counted : Counted s := counted_of_start phase (by simp [op]) alone
    have total := stepsLeft_ref_start busy op phase
    refine ⟨total, ?_, engStep_iterate_ref busy op phase,
      fun k hk => counted.iterate_busy alone k (by omega), ?_⟩
    · simp only [engStep_crcRef busy op, crcRefStep, phase]
    · rw [← total]
      exact counted.iterate_done alone (by omega)
  · have alone : EngineOnly s := engineOnly_of_not_batch (by simp [op])
    have counted : Counted s := counted_of_start phase (by simp [op]) alone
    have total : stepsLeft s = bytes + trailing + 2 := by
      rw [stepsLeft_fast_start busy op phase, fastMicros_zero]
    have micro := engStep_iterate_fast busy op phase
    obtain ⟨idle, done⟩ := counted.iterate_done alone (by omega)
    rw [total] at idle done
    refine ⟨total, ?_, fun k hk => ?_, fun k hk hk' => ?_,
      fun k hk => counted.iterate_busy alone k (by omega), idle, done, by omega, by omega⟩
    · simp only [engStep_crcFast busy op, crcFastStep, phase]
    · rw [micro k (by omega), if_pos hk]
    · rw [micro k hk', if_neg (by omega)]
  · have alone : EngineOnly s := fun _ => hmax
    have counted : Counted s := counted_of_start phase (fun _ => hmin) alone
    have total := stepsLeft_loop_start busy op phase hmax
    refine ⟨by rw [total, fastMicros_zero], counted.iterate_busy alone,
      counted.iterate_done alone (by omega)⟩
  · refine ⟨stepsLeft_parallel_start busy op phase path, fun w hw j => ?_⟩
    rw [engStep_parallel_start busy op phase path]
    obtain ⟨k, hk, quota, count, fin⟩ := dispatched_worker_turns busy op w hw j
    exact ⟨k, hk, quota, count, fin⟩

/-! ### From any running state to completion -/

theorem sum_map_set (f : Worker → Nat) {l : List Worker} {w : Nat} {k : Worker}
    (hk : l[w]? = some k) (k' : Worker) :
    ((l.set w k').map f).sum + f k = (l.map f).sum + f k' := by
  induction l generalizing w with
  | nil => simp at hk
  | cons x l ih =>
    cases w with
    | zero =>
      obtain rfl : x = k := by simpa using hk
      simp only [List.set_cons_zero, List.map_cons, List.sum_cons]
      omega
    | succ w =>
      have tail := ih (w := w) (by simpa using hk)
      simp only [List.set_cons_succ, List.map_cons, List.sum_cons]
      omega

/-- A worker that has not finished has one step less to take after its turn. -/
theorem Worker.stepsLeft_turn {k : Worker} (unfinished : k.fin = false)
    (share : k.count.toNat ≤ k.quota.toNat) (crc : Crc15) :
    k.stepsLeft = (k.turn crc).stepsLeft + 1 := by
  by_cases hlt : k.count.toNat < k.quota.toNat
  · have hcount : (k.count + 1#64).toNat = k.count.toNat + 1 :=
      BitVec.toNat_add_of_lt (lt_of_le_of_lt hlt k.quota.isLt)
    simp only [Worker.turn, Worker.stepsLeft, unfinished, hlt, hcount, if_true, Bool.false_eq_true,
      if_false]
    omega
  · have spent : k.count = k.quota := BitVec.eq_of_toNat_eq (by omega)
    simp [Worker.turn, Worker.stepsLeft, unfinished, spent]

theorem stepsLeft_workerStep {s : State} (run : workersRun s = true) {w : Nat} {k : Worker}
    (hk : s.workers[w]? = some k) (unfinished : k.fin = false)
    (share : k.count.toNat ≤ k.quota.toNat) : stepsLeft s = stepsLeft (workerStep w s) + 1 := by
  obtain ⟨busy, op, phase⟩ := (workersRun_iff s).1 run
  have sum := sum_map_set Worker.stepsLeft hk (k.turn (crcFast s.tbl s.sequence))
  rw [Worker.stepsLeft_turn unfinished share (crcFast s.tbl s.sequence)] at sum
  rw [stepsLeft_parallel_join busy op phase,
    stepsLeft_parallel_join (by simpa using busy) (by simpa using op) (by simpa using phase),
    workerStep_workers run hk]
  omega

/-- In a running command some agent's turn lowers the number of steps left: ENG's, or while ENG waits
for the join that of a worker that has not finished (43_batch_runner.md R128). -/
theorem Inv.exists_turn_lowers {s : State} (h : Inv s) (busy : s.busy = true) :
    ∃ a : Turn, (a = .eng ∨ ∃ w < s.numWorkers, a = .wrk w) ∧
      stepsLeft s = stepsLeft (agentStep a s) + 1 := by
  by_cases ready : s.op = 3#4 → s.phase = .join → allFinished s = true
  · have left := h.stepsLeft_pos busy
    exact ⟨.eng, .inl rfl,
      (h.counted busy).lowers busy left (engStep_effect_of_stepsLeft_pos left ready)⟩
  · push Not at ready
    obtain ⟨op, phase, waits⟩ := ready
    have run := (workersRun_iff s).2 ⟨busy, op, phase⟩
    obtain ⟨k, hmem, unfinished⟩ : ∃ k ∈ s.workers, k.fin = false := by
      simpa [allFinished] using waits
    obtain ⟨w, hw, rfl⟩ := List.mem_iff_getElem.1 hmem
    have hk := List.getElem?_eq_getElem hw
    obtain ⟨-, -, -, -, hpool⟩ := (h.running busy).pool op phase
    obtain ⟨-, share, -, -⟩ := hpool w _ hk
    exact ⟨.wrk w, .inr ⟨w, hw, rfl⟩, stepsLeft_workerStep run hk unfinished share⟩

/-- What no agent behind the boundary writes: the input, the error, and the host's own elements. -/
structure SameAround (s t : State) : Prop where
  input : SameInput s t
  err : t.err = s.err
  errCode : t.errCode = s.errCode
  tblIdx : t.tblIdx = s.tblIdx
  script : t.script = s.script
  returned : t.returned = s.returned

theorem SameAround.refl (s : State) : SameAround s s :=
  ⟨⟨rfl, rfl, rfl, rfl⟩, rfl, rfl, rfl, rfl, rfl⟩

theorem SameAround.trans {s t u : State} (h : SameAround s t) (h' : SameAround t u) :
    SameAround s u :=
  ⟨h.input.trans h'.input, h'.err.trans h.err, h'.errCode.trans h.errCode,
    h'.tblIdx.trans h.tblIdx, h'.script.trans h.script, h'.returned.trans h.returned⟩

theorem agentStep_sameAround (a : Turn) (s : State) : SameAround s (agentStep a s) := by
  cases a with
  | eng =>
    exact ⟨engStep_sameInput s, engStep_err s, engStep_errCode s, engStep_tblIdx s, engStep_script s,
      engStep_returned s⟩
  | wrk w =>
    exact ⟨workerStep_sameInput w s, workerStep_err w s, workerStep_errCode w s,
      workerStep_tblIdx w s, workerStep_script w s, workerStep_returned w s⟩
  | host | reset => exact .refl s

theorem afterTurns_sameAround (agents : List Turn) (s : State) :
    SameAround s (afterTurns agents s) := by
  induction agents generalizing s with
  | nil => exact .refl s
  | cons a agents ih => exact (agentStep_sameAround a s).trans (ih _)

theorem engStep_iterate_sameAround (k : Nat) (s : State) : SameAround s (engStep^[k] s) := by
  rw [← afterTurns_replicate_eng]
  exact afterTurns_sameAround _ s

theorem Inv.agentStep {s : State} (h : Inv s) (a : Turn) : Inv (agentStep a s) := by
  cases a with
  | eng => exact h.engStep
  | wrk w => exact h.workerStep w
  | host | reset => exact h

theorem Inv.afterTurns {s : State} (h : Inv s) (agents : List Turn) : Inv (afterTurns agents s) := by
  induction agents generalizing s with
  | nil => exact h
  | cons a agents ih => exact ih (h.agentStep a)

/-- The turn that clears `BUSY` is ENG's, and it completes the command. -/
theorem agentStep_completes {s : State} (h : Inv s) (busy : s.busy = true) (a : Turn)
    (idle : (agentStep a s).busy = false) :
    (agentStep a s).done = true ∧
      (s.op ≠ 4#4 → (agentStep a s).result = crcWord (crcRef s.sequence)) := by
  cases a with
  | eng =>
    obtain ⟨done, result, -⟩ := engStep_completes h busy idle
    exact ⟨done, result⟩
  | wrk w => simp [agentStep, busy] at idle
  | host | reset => simp [agentStep, busy] at idle

/-- Some turns of ENG and of the workers complete a running command, whatever its path. -/
theorem exists_completing_turns {s : State} (h : Inv s) (busy : s.busy = true) :
    ∃ agents : List Turn, (∀ a ∈ agents, isAgentTurn a = true) ∧
      (afterTurns agents s).busy = false ∧ (afterTurns agents s).done = true ∧
      (s.op ≠ 4#4 → (afterTurns agents s).result = crcWord (crcRef s.sequence)) := by
  induction hn : stepsLeft s using Nat.strong_induction_on generalizing s with
  | _ n ih =>
    obtain ⟨a, ha, lowered⟩ := h.exists_turn_lowers busy
    have agent : isAgentTurn a = true := by rcases ha with rfl | ⟨w, -, rfl⟩ <;> rfl
    cases busy' : (agentStep a s).busy with
    | false => exact ⟨[a], by simpa using agent, busy', agentStep_completes h busy a busy'⟩
    | true =>
      obtain ⟨agents, hagents, idle, done, result⟩ := ih _ (by omega) (h.agentStep a) busy' rfl
      have same := (agentStep_sameAround a s).input
      rw [same.op, same.sequence] at result
      exact ⟨a :: agents, List.forall_mem_cons.2 ⟨agent, hagents⟩, idle, done, result⟩

/-! ### From idle to the result -/

/-- A step of ENG of a command that it runs alone keeps the workers, and outside a batch no draw is
taken. -/
theorem engStep_alone {s : State} (alone : EngineOnly s) :
    (engStep s).workers = s.workers ∧
      (s.op ≠ 3#4 → (engStep s).elapsed = s.elapsed ∧ (engStep s).draws = s.draws) := by
  rcases engStep_effect s with he | ⟨-, he⟩
  · rw [he]
    exact ⟨rfl, fun _ => ⟨rfl, rfl⟩⟩
  generalize engStep s = t at he
  cases he with
  | dispatch op phase path => exact absurd (alone op) (Nat.not_lt.2 path)
  | count op =>
    obtain ⟨r, p, n, ph, hc⟩ := countComputation_advance s
    rw [hc]
    exact ⟨rfl, absurd op⟩
  | endLoop op | join op => exact ⟨rfl, absurd op⟩
  | start | startLoop | bit | byte | result | fill | built => exact ⟨rfl, fun _ => ⟨rfl, rfl⟩⟩

theorem engStep_iterate_alone {s : State} (alone : EngineOnly s) (k : Nat) :
    EngineOnly (engStep^[k] s) ∧ (engStep^[k] s).workers = s.workers ∧
      (s.op ≠ 3#4 → (engStep^[k] s).elapsed = s.elapsed ∧ (engStep^[k] s).draws = s.draws) := by
  induction k with
  | zero => exact ⟨alone, rfl, fun _ => ⟨rfl, rfl⟩⟩
  | succ k ih =>
    obtain ⟨alone', workers, quiet⟩ := ih
    obtain ⟨hworkers, hquiet⟩ := engStep_alone alone'
    rw [(engStep_iterate_sameInput k s).op] at hquiet
    rw [Function.iterate_succ_apply']
    exact ⟨alone'.engStep, hworkers.trans workers, fun op =>
      ⟨(hquiet op).1.trans (quiet op).1, (hquiet op).2.trans (quiet op).2⟩⟩

theorem ctrlWrite_accept {s : State} (idle : s.busy = false) (c : Command) (h : check c s = none) :
    ctrlWrite c.code s = accept c.code (forgetOutcome s) := by
  simp [ctrlWrite, idle, check_forgetOutcome, h]


/-- The state `u` has completed a command on the input of `s`, and what the command does not write is as
in `s`. -/
structure CompletedFrom (s u : State) : Prop where
  idle : u.busy = false
  done : u.done = true
  err : u.err = false
  errCode : u.errCode = 0#3
  result : u.result.toNat = (crcRef s.sequence).toNat
  bits : u.bits = s.bits
  len : u.len = s.len
  iter : u.iter = s.iter
  tbl : u.tbl = s.tbl
  tblIdx : u.tblIdx = s.tblIdx
  script : u.script = s.script
  returned : u.returned = s.returned
  turns : u.turns = s.turns

/-- A command accepted in `s` and completed by turns of the agents has completed from `s`. -/
theorem completedFrom_of_accepted {s v : State} {op : BitVec 4} (inv : Inv s) (inv' : Inv v)
    (same : SameAround (accept op (forgetOutcome s)) v) (idle : v.busy = false) (done : v.done = true)
    (result : v.result = crcWord (crcRef s.sequence)) : CompletedFrom s { v with turns := s.turns } where
  idle := idle
  done := done
  err := same.err
  errCode := same.errCode
  result := by rw [result, crcWord_toNat]
  bits := same.input.bits
  len := same.input.len
  iter := same.input.iter
  tbl := inv'.table.trans inv.table.symm
  tblIdx := same.tblIdx
  script := same.script
  returned := same.returned
  turns := rfl

theorem Command.code_injective : Function.Injective Command.code := fun a b h => by
  simpa using congrArg commandOf h

section Accepted

variable {s : State} (inv : Inv s) (idle : s.busy = false) {c : Command} (checked : check c s = none)
include inv idle checked

theorem inv_accept : Inv (accept c.code (forgetOutcome s)) := by
  have h := inv.ctrlWrite c.code
  rwa [ctrlWrite_accept idle c checked] at h

/-- A command that needs no worker, from its acceptance: ENG's turns alone complete it. -/
theorem accepted_runs_alone (crc : c ≠ .tblBuild)
    (path : c = .runBatch → s.iter.toNat < Config.parThreshold) :
    ∃ (n : Nat) (u : State),
      core.run n { accept c.code (forgetOutcome s) with
        turns := List.replicate n Turn.eng ++ s.turns } = .next u ∧
      CompletedFrom s u ∧ u.workers = s.workers ∧
      (c ≠ .runBatch → u.elapsed = s.elapsed ∧ u.draws = s.draws) := by
  have inv' := inv_accept inv idle checked
  have alone : EngineOnly (accept c.code (forgetOutcome s)) := fun op =>
    path (Command.code_injective op)
  obtain ⟨idle', done, result, -⟩ := engStep_iterate_completes inv' rfl alone
  obtain ⟨-, workers, quiet⟩ := engStep_iterate_alone alone (stepsLeft (accept c.code (forgetOutcome s)))
  exact ⟨_, _, run_engTurns _ _ s.turns,
    completedFrom_of_accepted inv (inv'.iterate _) (engStep_iterate_sameAround _ _) idle' done
      (result (Command.code_injective.ne crc)),
    workers, fun notBatch => quiet (Command.code_injective.ne notBatch)⟩

/-- Any accepted command but `TBL_BUILD`, from its acceptance: some turns of the agents complete it. -/
theorem accepted_runs (crc : c ≠ .tblBuild) :
    ∃ (agents : List Turn) (u : State), (∀ a ∈ agents, isAgentTurn a = true) ∧
      core.run agents.length { accept c.code (forgetOutcome s) with turns := agents ++ s.turns } =
        .next u ∧
      CompletedFrom s u := by
  have inv' := inv_accept inv idle checked
  obtain ⟨agents, hagents, idle', done, result⟩ := exists_completing_turns inv' rfl
  exact ⟨agents, _, hagents, run_agentTurns agents hagents _ s.turns,
    completedFrom_of_accepted inv (inv'.afterTurns agents) (afterTurns_sameAround agents _) idle' done
      (result (Command.code_injective.ne crc))⟩

end Accepted

/-- The three commands that compute a CRC, as transactions that pass the check and need no worker. -/
theorem exec_crcCommand {s : State} (ig : BitVec 28) (length : LengthAdmitted s) {i : Instr}
    (hi : i ∈ [Instr.crcRef ig, .crcFast ig, .runBatch ig])
    (range : i = .runBatch ig → 1 ≤ s.iter.toNat ∧ s.iter.toNat < 100000) :
    ∃ c : Command, exec i s = .next (ctrlWrite c.code s) ∧ c ≠ .tblBuild ∧ check c s = none ∧
      (c = .runBatch → s.iter.toNat < Config.parThreshold) ∧ (i ≠ .runBatch ig → c ≠ .runBatch) := by
  simp only [List.mem_cons, List.not_mem_nil, or_false] at hi
  rcases hi with rfl | rfl | rfl
  · exact ⟨.crcRef, rfl, nofun, (check_eq_none _ s).2 ⟨fun _ => length, nofun⟩, nofun, fun _ => nofun⟩
  · exact ⟨.crcFast, rfl, nofun, (check_eq_none _ s).2 ⟨fun _ => length, nofun⟩, nofun, fun _ => nofun⟩
  · obtain ⟨hmin, hmax⟩ := range rfl
    have small : s.iter.toNat ≤ Config.iterMax := hmax.le.trans (by decide)
    exact ⟨.runBatch, rfl, nofun, (check_eq_none _ s).2 ⟨fun _ => length, fun _ => ⟨hmin, small⟩⟩,
      fun _ => hmax, absurd rfl⟩

/-- Settles O60: the three commands are accepted; ENG alone completes those that need no worker, and for
a parallel batch the turns are those that lower the count. -/
theorem commandRunsFromIdleToItsResult : Obligations.CommandRunsFromIdleToItsResult := by
  intro s ig inv idle hmin hmax
  have length : LengthAdmitted s := ⟨hmin, hmax⟩
  constructor
  · intro i hi range
    obtain ⟨c, means, crc, checked, path, notBatch⟩ := exec_crcCommand ig length hi range
    rw [ctrlWrite_accept idle c checked] at means
    obtain ⟨n, u, run, ⟨idle', done, err, errCode, result, bits, len, iter, tbl, tblIdx, script,
      returned, turns⟩, workers, quiet⟩ := accepted_runs_alone inv idle checked crc path
    exact ⟨n, _, u, means, rfl, run, idle', done, err, errCode, result, bits, len, iter, tbl, tblIdx,
      workers, script, returned, turns, fun h => quiet (notBatch h)⟩
  · intro hlo hhi
    have checked : check .runBatch s = none := (check_eq_none _ s).2
      ⟨fun _ => length, fun _ => ⟨le_trans (by decide) hlo, hhi⟩⟩
    have means : exec (.runBatch ig) s = .next (accept Command.runBatch.code (forgetOutcome s)) :=
      congrArg Host.Outcome.next (ctrlWrite_accept idle .runBatch checked)
    obtain ⟨agents, u, hagents, run, idle', done, err, errCode, result, bits, len, iter, tbl, tblIdx,
      script, returned, turns⟩ := accepted_runs inv idle checked nofun
    exact ⟨agents, _, u, means, rfl, hagents, run, idle', done, err, errCode, result, bits, len, iter,
      tbl, tblIdx, script, returned, turns⟩

end Sys2Proof.Machine

/-! ## The batch runner: dispatch, workers, progress and fair schedules -/

namespace Sys2Proof.Machine

/-! ### The dispatch -/

theorem batchPath_single (n : Nat) : batchPath n = .single ↔ n = 1 := by
  unfold batchPath
  split_ifs with one <;> simp [one]

theorem batchPath_sequential (n : Nat) :
    batchPath n = .sequential ↔ n ≠ 1 ∧ n < Config.parThreshold := by
  unfold batchPath
  split_ifs with one small
  · simp [one]
  · simp [one, small]
  · simp [small]

/-- Settles O31, path by path; no batch of 0 iterations is admitted. -/
theorem batchPathBoundaries : Obligations.BatchPathBoundaries := by
  intro n admitted
  refine ⟨batchPath_single n, ?_, batchPath_parallel n⟩
  rw [batchPath_sequential, Config.parThreshold]
  omega

/-- Settles O32: a pool no larger than the batch leaves no share empty. -/
theorem quotasSplitEvenly : Obligations.QuotasSplitEvenly := by
  intro n w _ size
  exact ⟨sum_quota n w size, fun _ _ => rfl,
    fun many pool i _ => quota_pos n w i size (by omega)⟩

/-- Settles O33: the step of ENG is the dispatch, which maps each worker to its share. -/
theorem parallelDispatchSetsTheWorkers : Obligations.ParallelDispatchSetsTheWorkers := by
  intro s busy op phase path
  refine ⟨_, engStep_parallel_start busy op phase path, List.length_mapIdx, fun w k hk => ?_⟩
  rw [List.getElem?_mapIdx, hk]
  rfl

/-! ### The turns of ENG and of the workers past the dispatch -/

/-- A turn of a worker of a dispatched batch, in full. -/
theorem workerStep_eq_turn {s : State} (run : workersRun s = true) {w : Nat} {k : Worker}
    (hk : s.workers[w]? = some k) :
    workerStep w s = { s with
      workers := s.workers.set w (k.turn (crcFast s.tbl s.sequence))
      result := if k.atFinalStep ∧ 0 < k.quota.toNat then crcWord k.reg else s.result } := by
  have keep : s.workers.set w k = s.workers := by
    obtain ⟨hlt, rfl⟩ := List.getElem?_eq_some_iff.1 hk
    exact List.set_getElem_self hlt
  simp only [workerStep, run, if_true, hk, Worker.turn, Worker.atFinalStep]
  by_cases fin : k.fin = true
  · simp [fin, keep]
  by_cases more : k.count.toNat < k.quota.toNat
  · have unspent : k.count ≠ k.quota := fun he => more.ne (congrArg BitVec.toNat he)
    simp [fin, more, unspent, iterationStep]
  by_cases spent : k.count = k.quota
  · simp [fin, spent, finalStep]
  · simp [fin, more, spent, keep]

/-- Settles O34: what the turn makes of the worker and of the slot, in each of its three situations. -/
theorem workerStepsChangeOnlyTheirOwn : Obligations.WorkerStepsChangeOnlyTheirOwn := by
  intro s w k busy op phase hk
  have run := (workersRun_iff s).2 ⟨busy, op, phase⟩
  refine ⟨_, _, workerStep_eq_turn run hk, fun unfinished more => ?_, fun unfinished spent => ?_,
    fun finished => ?_⟩
  · have unspent : k.count ≠ k.quota := fun he => more.ne (congrArg BitVec.toNat he)
    simp [Worker.turn, Worker.atFinalStep, unfinished, more, unspent]
  · refine ⟨by simp [Worker.turn, unfinished, spent], fun share => ?_, fun empty => ?_⟩
    · simp [Worker.atFinalStep, unfinished, spent, share]
    · simp [empty]
  · simp [Worker.turn, Worker.atFinalStep, finished]

theorem engStep_join {s : State} (busy : s.busy = true) (op : s.op = 3#4) (phase : s.phase = .join) :
    engStep s = if allFinished s then complete (drawElapsed s) else s := by
  simp only [engStep_runBatch busy op, runBatchStep, phase]

theorem workerStep_of_absent {s : State} {w : Nat} (absent : s.workers[w]? = none) :
    workerStep w s = s := by
  rcases workerStep_cases w s with same | ⟨k, -, hk, -⟩
  · exact same
  · simp [absent] at hk

/-- Settles O35: the join is ENG's only step past the dispatch, and a worker's turn is a step only of a
dispatched batch and of a worker of the pool. -/
theorem agentsStepOnlyInTheirTime : Obligations.AgentsStepOnlyInTheirTime := by
  refine ⟨fun s busy op phase => ?_, fun s w outside => ?_, fun s idle => ?_⟩
  · rw [engStep_join busy op phase]
    refine ⟨fun ⟨k, hk, unfinished⟩ => if_neg fun all => ?_,
      fun all => if_pos ((allFinished_iff s).2 all)⟩
    simp [(allFinished_iff s).1 all k hk] at unfinished
  · by_cases absent : s.workers.length ≤ w
    · exact workerStep_of_absent (List.getElem?_eq_none absent)
    · refine workerStep_of_not_workersRun w s (Bool.eq_false_iff.2 fun run => ?_)
      obtain ⟨busy, op, phase⟩ := (workersRun_iff s).1 run
      simp [busy, op, phase, absent] at outside
  · simp [engStep, idle]

/-! ### What sets and clears `BUSY` -/

/-- While a command runs, a transaction writes `TBL_IDX` or nothing of the block's. -/
theorem exec_of_busy {i : Instr} {s t : State} (busy : s.busy = true) (h : exec i s = .next t) :
    ∃ ti re d, t = { s with tblIdx := ti, returned := re, draws := d } := by
  cases exec_effect i s t h with
  | observed r d => exact ⟨_, _, _, rfl⟩
  | command op => exact ⟨_, _, _, ctrlWrite_busy op s busy⟩
  | input _ _ _ idle => simp [busy] at idle
  | index x => exact ⟨_, _, _, rfl⟩

/-- While a command runs, a turn of the host changes of the block at most `TBL_IDX`, and puts no new line
into the program. -/
theorem step_host_of_busy {s t : State} (busy : s.busy = true) (h : step s = .next t)
    (turn : nextTurn s = .host) :
    ∃ ti sc re d, (∀ l ∈ sc, l ∈ s.script) ∧
      t = { takeTurn s with tblIdx := ti, script := sc, returned := re, draws := d } := by
  cases step_effect s t h with
  | idle => exact ⟨_, (takeTurn s).script, _, _, by simp, rfl⟩
  | transfer x rest t _ line run =>
    obtain ⟨ti, re, d, rfl⟩ := exec_of_busy (by simpa using busy) run
    exact ⟨ti, rest, re, d, fun l hl => line ▸ List.mem_cons_of_mem _ hl, rfl⟩
  | poll ifDone rest _ line =>
    rw [afterPoll_busy s ifDone rest busy]
    exact ⟨_, _, _, _, fun l hl => line ▸ hl, rfl⟩
  | engine turn' | worker _ turn' | reset turn' => simp [turn] at turn'

theorem Command.code_toNat (c : Command) : 1 ≤ c.code.toNat ∧ c.code.toNat ≤ 4 := by
  cases c <;> decide

/-- A `CTRL` write that sets `BUSY` latches a command's code. -/
theorem ctrlWrite_sets_busy {op : BitVec 4} {s : State} (idle : s.busy = false)
    (busy : (ctrlWrite op s).busy = true) : ∃ c : Command, op = c.code ∧ (ctrlWrite op s).op = op := by
  rcases ctrlWrite_cases op s with ⟨was, -⟩ | ⟨-, e, he⟩ | ⟨-, c, code, -, he⟩
  · simp [idle] at was
  · simp [he, idle] at busy
  · exact ⟨c, code, by simp [he]⟩

/-- A turn of the host that sets `BUSY` is an accepted `CTRL` write, whose code is latched. -/
theorem step_host_sets_busy {s t : State} (h : step s = .next t) (turn : nextTurn s = .host)
    (idle : s.busy = false) (busy : t.busy = true) :
    ∃ (x : Txn) (rest : List HostLine) (c : Command), s.script = .xfer x :: rest ∧
      x.dir = .write ∧ x.off = 0x00#8 ∧ x.data.extractLsb' 0 4 = c.code ∧ t.op = c.code := by
  cases step_effect s t h with
  | idle | poll => simp [idle] at busy
  | transfer x rest t _ line run =>
    rcases exec_ctrl_or_quiet x _ t run with ⟨dir, off, rfl⟩ | ⟨same, -⟩
    · obtain ⟨c, code, latched⟩ := ctrlWrite_sets_busy (by simpa using idle) busy
      exact ⟨x, rest, c, line, dir, off, code, latched.trans code⟩
    · simp [same, idle] at busy
  | engine turn' | worker _ turn' | reset turn' => simp [turn] at turn'

/-- Settles O49, turn by turn. -/
theorem busyFallsOnlyByCompletionOrReset : Obligations.BusyFallsOnlyByCompletionOrReset := by
  intro s t h
  cases turn : nextTurn s with
  | host =>
    refine ⟨fun busy idle => ?_, fun idle busy => ⟨rfl, ?_⟩⟩
    · obtain ⟨ti, sc, re, d, -, rfl⟩ := step_host_of_busy busy h turn
      simp [busy] at idle
    · obtain ⟨x, rest, c, line, dir, off, code, op⟩ := step_host_sets_busy h turn idle busy
      obtain ⟨lo, hi⟩ := c.code_toNat
      refine ⟨x, rest, line, dir, off, ?_, by rwa [op], by rwa [op]⟩
      rw [op, ← code, BitVec.extractLsb'_toNat, Nat.shiftRight_zero]
  | eng =>
    cases step_of_eng h turn
    rcases engStep_outcome (takeTurn s) with ⟨same, -⟩ | ⟨was, idle, done, -⟩
    · rw [takeTurn_busy] at same
      exact ⟨fun busy idle => by simp [same, busy] at idle,
        fun idle busy => by simp [same, idle] at busy⟩
    · exact ⟨fun _ _ => .inr ⟨rfl, done⟩, fun _ busy => by simp [idle] at busy⟩
  | wrk w =>
    cases step_of_wrk h turn
    exact ⟨fun busy idle => by simp [busy] at idle, fun idle busy => by simp [idle] at busy⟩
  | reset =>
    cases step_of_reset h turn
    exact ⟨fun _ _ => .inl rfl, fun _ busy => by simp at busy⟩

/-! ### Progress of a running command -/

/-- Settles O41 by the turn that lowers the count of the steps left. -/
theorem runningCommandIsNeverStuck : Obligations.RunningCommandIsNeverStuck := by
  intro s inv busy
  obtain ⟨a, ha, lowered⟩ := inv.exists_turn_lowers busy
  have agent : isAgentTurn a = true := by rcases ha with rfl | ⟨w, -, rfl⟩ <;> rfl
  exact ⟨a, ha, fun rest => ⟨_, step_agentTurn a agent s rest, lowered.symm⟩⟩

/-- When an agent has a step enabled while a command runs: ENG always but in its wait for a join, a worker
from the dispatch until it has finished (43_batch_runner.md R126, R128). It reads nothing the host or the
schedule writes. -/
def HasStep : Turn → State → Prop
  | .host, _ => False
  | .eng, s => s.op = 3#4 → s.phase = .join → allFinished s = true
  | .wrk w, s => workersRun s = true ∧ ∃ k, s.workers[w]? = some k ∧ k.fin = false
  | .reset, _ => False

theorem CanStep.hasStep {s : State} (busy : s.busy = true) {a : Turn} (h : CanStep a s) :
    HasStep a s := by
  cases a with
  | host => exact canStep_host s h
  | eng =>
    intro op phase
    by_contra waits
    exact h ((engStep_join busy op phase).trans (if_neg waits))
  | wrk w =>
    obtain ⟨k, run, hk, unfinished, -⟩ := canStep_wrk_cases w s h
    exact ⟨run, k, hk, unfinished⟩
  | reset => exact canStep_reset s h

/-- Every step enabled while a command runs brings it one step nearer its completion. -/
theorem HasStep.lowers {s : State} (inv : Inv s) (busy : s.busy = true) {a : Turn} (h : HasStep a s) :
    stepsLeft s = stepsLeft (agentStep a s) + 1 := by
  cases a with
  | host | reset => exact h.elim
  | eng =>
    have left := inv.stepsLeft_pos busy
    exact (inv.counted busy).lowers busy left (engStep_effect_of_stepsLeft_pos left h)
  | wrk w =>
    obtain ⟨run, k, hk, unfinished⟩ := h
    obtain ⟨-, op, phase⟩ := (workersRun_iff s).1 run
    obtain ⟨-, -, -, -, hpool⟩ := (inv.running busy).pool op phase
    obtain ⟨-, share, -, -⟩ := hpool w k hk
    exact stepsLeft_workerStep run hk unfinished share

theorem canStep_of_lowers {s : State} {a : Turn} (h : stepsLeft s = stepsLeft (agentStep a s) + 1) :
    CanStep a s := by
  intro same
  rw [same] at h
  omega

theorem canStep_iff_hasStep {s : State} (inv : Inv s) (busy : s.busy = true) (a : Turn) :
    CanStep a s ↔ HasStep a s :=
  ⟨CanStep.hasStep busy, fun h => canStep_of_lowers (h.lowers inv busy)⟩

/-- The command in progress stands where it stood: what differs is `TBL_IDX` or the model's own record of
the host and of the schedule. -/
def SameCommand (s t : State) : Prop :=
  ∃ ti sc re ts d,
    t = { s with tblIdx := ti, script := sc, returned := re, turns := ts, draws := d }

theorem SameCommand.stepsLeft {s t : State} (h : SameCommand s t) : stepsLeft t = stepsLeft s := by
  obtain ⟨ti, sc, re, ts, d, rfl⟩ := h
  rfl

theorem SameCommand.canStep_iff {s t : State} (h : SameCommand s t) (inv : Inv s)
    (busy : s.busy = true) (a : Turn) : CanStep a t ↔ CanStep a s := by
  obtain ⟨ti, sc, re, ts, d, rfl⟩ := h
  rw [canStep_iff_hasStep inv busy, canStep_iff_hasStep (inv.outside _ ti sc re ts d) busy]
  cases a <;> rfl

theorem takeTurn_sameCommand (s : State) : SameCommand s (takeTurn s) := by
  unfold takeTurn
  split <;> exact ⟨_, _, _, _, _, rfl⟩

/-- An agent's turn lowers the count, or the agent had no step enabled and nothing moves. -/
theorem agentTurn_progress {s : State} (inv : Inv s) (busy : s.busy = true) (a : Turn) :
    (SameCommand s (agentStep a (takeTurn s)) ∧ ¬ CanStep a s) ∨
      stepsLeft s = stepsLeft (agentStep a (takeTurn s)) + 1 := by
  have taken := takeTurn_sameCommand s
  have busy' : (takeTurn s).busy = true := by simpa using busy
  by_cases enabled : CanStep a (takeTurn s)
  · rw [← taken.stepsLeft]
    exact .inr ((enabled.hasStep busy').lowers inv.takeTurn busy')
  · refine .inl ⟨?_, fun h => enabled ((taken.canStep_iff inv busy a).2 h)⟩
    rw [show agentStep a (takeTurn s) = takeTurn s from not_not.1 enabled]
    exact taken

/-- While a command runs, a step other than Reset lowers the count by one, or it was the turn of the host
or of an agent with no step enabled, and leaves the command where it stood. -/
theorem step_progress {s t : State} (inv : Inv s) (busy : s.busy = true) (h : step s = .next t)
    (noReset : nextTurn s ≠ .reset) :
    (SameCommand s t ∧ ¬ CanStep (nextTurn s) s) ∨ stepsLeft s = stepsLeft t + 1 := by
  cases turn : nextTurn s with
  | host =>
    obtain ⟨ti, sc, re, d, -, rfl⟩ := step_host_of_busy busy h turn
    obtain ⟨_, _, _, ts, _, taken⟩ := takeTurn_sameCommand s
    exact .inl ⟨⟨ti, sc, re, ts, d, by rw [taken]⟩, canStep_host s⟩
  | eng =>
    cases step_of_eng h turn
    exact agentTurn_progress inv busy .eng
  | wrk w =>
    cases step_of_wrk h turn
    exact agentTurn_progress inv busy (.wrk w)
  | reset => exact absurd turn noReset

/-- Settles O42: Reset leaves no step, and every other step lowers the count or leaves it. -/
theorem stepsLeftNeverGrow : Obligations.StepsLeftNeverGrow := by
  intro s t inv busy h
  refine ⟨?_, fun none_left => ?_⟩
  · by_cases turn : nextTurn s = .reset
    · cases step_of_reset h turn
      rw [stepsLeft_of_idle (resetEvent_busy _)]
      exact Nat.zero_le _
    · rcases step_progress inv busy h turn with ⟨same, -⟩ | lowered
      · exact same.stepsLeft.le
      · omega
  · by_contra running
    have left := (stepKeepsTheInvariant s t inv h).stepsLeft_pos (by simpa using running)
    omega

/-! ### Fair schedules -/

theorem run_add {M : Host.Core} {s t : M.State} {m : Nat} (h : M.run m s = .next t) (n : Nat) :
    M.run (m + n) s = M.run n t := by
  induction m generalizing s with
  | zero =>
    cases h
    rw [Nat.zero_add]
  | succ m ih =>
    rw [Nat.succ_add, Host.Core.run]
    rw [Host.Core.run] at h
    cases first : M.step s with
    | next u =>
      simp only [first] at h ⊢
      exact ih h
    | fault r | refused r => simp [first] at h

theorem run_one {s t : State} (h : step s = .next t) : core.run 1 s = .next t := by
  have first : core.step s = .next t := h
  simp only [Host.Core.run, first]

/-- A step is refused only for a misaligned transaction of the host (20_memory.md R36). -/
theorem exists_step {s : State}
    (aligned : ∀ x : Txn, HostLine.xfer x ∈ s.script → x.off.toNat % 4 = 0) :
    ∃ t, step s = .next t := by
  unfold step
  split
  · unfold hostStep
    rw [takeTurn_script]
    split
    · exact ⟨_, rfl⟩
    case h_2 x rest line => exact (misalignedRefused x _).2 (aligned x (by simp [line]))
    · exact ⟨_, rfl⟩
  all_goals exact ⟨_, rfl⟩

/-- While a command runs a step takes one turn, and adds no line to the host's program. -/
theorem step_turns_script {s t : State} (busy : s.busy = true) (h : step s = .next t) :
    t.turns = (takeTurn s).turns ∧ ∀ l ∈ t.script, l ∈ s.script := by
  cases turn : nextTurn s with
  | host =>
    obtain ⟨ti, sc, re, d, lines, rfl⟩ := step_host_of_busy busy h turn
    exact ⟨rfl, lines⟩
  | eng =>
    cases step_of_eng h turn
    simp
  | wrk w =>
    cases step_of_wrk h turn
    simp
  | reset =>
    cases step_of_reset h turn
    simp

/-- The step that ends a command without Reset is its completion. -/
theorem step_completes {s t : State} (inv : Inv s) (busy : s.busy = true) (h : step s = .next t)
    (noReset : nextTurn s ≠ .reset) (idle : t.busy = false) :
    t.done = true ∧ (s.op ≠ 4#4 → t.result.toNat = (crcRef s.sequence).toNat) := by
  obtain ⟨falls, -⟩ := busyFallsOnlyByCompletionOrReset s t h
  obtain ⟨-, done⟩ := (falls busy idle).resolve_left noReset
  refine ⟨done, fun crc => ?_⟩
  have crcCommand : s.op ∈ [1#4, 2#4, 3#4] := by
    rcases (inv.running busy).op_cases with op | op | op | op
    · simp [op]
    · simp [op]
    · simp [op]
    · exact absurd op crc
  exact (completedCommandHoldsTheCrc s t inv busy crcCommand h idle done).1

/-- A command in progress, and a host whose program issues no misaligned transaction. -/
structure UnderWay (s : State) : Prop where
  inv : Inv s
  busy : s.busy = true
  aligned : ∀ x : Txn, HostLine.xfer x ∈ s.script → x.off.toNat % 4 = 0

theorem UnderWay.step {s t : State} (h : UnderWay s) (hstep : step s = .next t)
    (busy : t.busy = true) : UnderWay t where
  inv := stepKeepsTheInvariant s t h.inv hstep
  busy := busy
  aligned := fun x hx => h.aligned x ((step_turns_script h.busy hstep).2 _ hx)

theorem UnderWay.exists_canStep {s : State} (h : UnderWay s) : ∃ a, CanStep a s := by
  obtain ⟨a, -, lowered⟩ := h.inv.exists_turn_lowers h.busy
  exact ⟨a, canStep_of_lowers lowered⟩

/-- At most `m` steps lead to the completion of the command in progress. -/
def CompletesWithin (m : Nat) (s : State) : Prop :=
  ∃ (n : Nat) (t : State), n ≤ m ∧ core.run n s = .next t ∧ t.busy = false ∧ t.done = true ∧
    (s.op ≠ 4#4 → t.result.toNat = (crcRef s.sequence).toNat)

theorem CompletesWithin.mono {s : State} {m m' : Nat} (h : CompletesWithin m s) (hm : m ≤ m') :
    CompletesWithin m' s := by
  obtain ⟨n, t, hn, completed⟩ := h
  exact ⟨n, t, hn.trans hm, completed⟩

theorem CompletesWithin.after_run {s t : State} {m k : Nat} (h : CompletesWithin m t)
    (run : core.run k s = .next t) (same : SameInput s t) : CompletesWithin (k + m) s := by
  obtain ⟨n, u, hn, run', idle, done, result⟩ := h
  rw [same.op, same.sequence] at result
  exact ⟨k + n, u, Nat.add_le_add_left hn k, (run_add run n).trans run', idle, done, result⟩

/-- What a list of turns that does not complete the command leads to: one step less is left if the list
names an agent that has a step enabled where it begins. -/
structure Served (r rest : List Turn) (s t : State) : Prop where
  run : core.run r.length s = .next t
  underWay : UnderWay t
  turns : t.turns = rest
  input : SameInput s t
  kept : stepsLeft t ≤ stepsLeft s
  progress : (∃ a ∈ r, CanStep a s) → stepsLeft t < stepsLeft s

/-- A turn before the others: the agent that had a step enabled before it either has taken one, or has it
enabled still. -/
theorem Served.cons {a : Turn} {r rest : List Turn} {s t u : State} (h : Served r rest t u)
    (start : UnderWay s) (first : step s = .next t) (turn : nextTurn s = a)
    (noReset : nextTurn s ≠ .reset) : Served (a :: r) rest s u := by
  subst turn
  have same := step_sameInput_of_busy s t start.busy first noReset
  have run : core.run (r.length + 1) s = .next u := by
    rw [Nat.add_comm, run_add (run_one first), h.run]
  have kept := h.kept
  rcases step_progress start.inv start.busy first noReset with ⟨command, passed⟩ | lowered
  · rw [command.stepsLeft] at kept
    refine ⟨run, h.underWay, h.turns, same.trans h.input, kept, ?_⟩
    rintro ⟨b, hb, enabled⟩
    rcases List.mem_cons.1 hb with rfl | hb
    · exact absurd enabled passed
    · rw [← command.stepsLeft]
      exact h.progress ⟨b, hb, (command.canStep_iff start.inv start.busy b).2 enabled⟩
  · exact ⟨run, h.underWay, h.turns, same.trans h.input, by omega, fun _ => by omega⟩

/-- Any turns but Reset complete the command, or serve every agent they name. -/
theorem UnderWay.round {r rest : List Turn} {s : State} (h : UnderWay s) (noReset : .reset ∉ r)
    (turns : s.turns = r ++ rest) :
    CompletesWithin r.length s ∨ ∃ t, Served r rest s t := by
  induction r generalizing s with
  | nil => exact .inr ⟨s, rfl, h, turns, ⟨rfl, rfl, rfl, rfl⟩, le_rfl, by simp⟩
  | cons a r ih =>
    obtain ⟨notFirst, notLater⟩ := not_or.1 (mt List.mem_cons.2 noReset)
    obtain ⟨t, first⟩ := exists_step h.aligned
    have turn : nextTurn s = a := nextTurn_cons s a _ turns
    have notReset : nextTurn s ≠ .reset := turn ▸ Ne.symm notFirst
    cases busy : t.busy with
    | false =>
      exact .inl ⟨1, t, by simp, run_one first, busy, step_completes h.inv h.busy first notReset busy⟩
    | true =>
      obtain ⟨taken, -⟩ := step_turns_script h.busy first
      have later : t.turns = r ++ rest :=
        taken.trans (congrArg State.turns (takeTurn_cons s a _ turns))
      rcases ih (h.step first busy) notLater later with completes | ⟨u, served⟩
      · rw [List.length_cons, Nat.add_comm]
        exact .inl (completes.after_run (run_one first)
          (step_sameInput_of_busy s t h.busy first notReset))
      · exact .inr ⟨u, served.cons h first turn notReset⟩

/-- Weakly fair rounds: each names every agent that has a step enabled where the round begins
(70_reset_and_hazards.md R204). -/
def FairRounds (rounds : List (List Turn)) (s : State) : Prop :=
  ∀ (i : Nat) (r : List Turn) (t : State), rounds[i]? = some r →
    core.run (rounds.take i).flatten.length s = .next t → t.busy = true →
    ∀ a : Turn, CanStep a t → a ∈ r

theorem FairRounds.tail {r : List Turn} {rounds : List (List Turn)} {s t : State}
    (h : FairRounds (r :: rounds) s) (run : core.run r.length s = .next t) : FairRounds rounds t := by
  intro i r' u hr run'
  refine h (i + 1) r' u hr ?_
  rw [List.take_succ_cons, List.flatten_cons, List.length_append, run_add run, run']

/-- As many fair rounds as steps are left complete the command: each round takes one at least. -/
theorem UnderWay.fairRounds {rounds : List (List Turn)} {rest : List Turn} {s : State}
    (h : UnderWay s) (enough : stepsLeft s ≤ rounds.length) (noReset : ∀ r ∈ rounds, .reset ∉ r)
    (fair : FairRounds rounds s) (turns : s.turns = rounds.flatten ++ rest) :
    CompletesWithin rounds.flatten.length s := by
  induction rounds generalizing s with
  | nil => exact absurd (h.inv.stepsLeft_pos h.busy) (Nat.not_lt.2 enough)
  | cons r rounds ih =>
    obtain ⟨notNow, notLater⟩ := List.forall_mem_cons.1 noReset
    rw [List.flatten_cons, List.append_assoc] at turns
    rw [List.flatten_cons, List.length_append]
    rcases h.round notNow turns with completes | ⟨t, served⟩
    · exact completes.mono (Nat.le_add_right _ _)
    · obtain ⟨a, enabled⟩ := h.exists_canStep
      have lower := served.progress ⟨a, fair 0 r s rfl rfl h.busy a enabled, enabled⟩
      rw [List.length_cons] at enough
      exact (ih served.underWay (by omega) notLater (fair.tail served.run) served.turns).after_run
        served.run served.input

/-- Settles O45: the rounds are fair, and as many as steps are left. -/
theorem fairScheduleCompletes : Obligations.FairScheduleCompletes := by
  intro s rounds rest inv busy aligned count noReset fair turns
  exact UnderWay.fairRounds ⟨inv, busy, aligned⟩ count.ge noReset fair turns

end Sys2Proof.Machine

/-! ## The host interface: turns, the boundary, and the register space -/

namespace Sys2Proof.Machine

/-! ### A word of a narrow register and its number -/

theorem setWidth_eq_ofNat_mod {m : Nat} (v : BitVec m) (n : Nat) :
    v.setWidth n = BitVec.ofNat n (v.toNat % 2 ^ n) := by
  rw [← BitVec.toNat_setWidth, BitVec.ofNat_toNat, BitVec.setWidth_eq]

/-- A word cut to a narrow register reads back as its low bits. -/
theorem setWidth_narrowed (v : Word) (n : Nat) :
    (v.setWidth n).setWidth 32 = BitVec.ofNat 32 (v.toNat % 2 ^ n) := by
  rw [← BitVec.ofNat_toNat, BitVec.toNat_setWidth]

theorem lowHalf_eq_ofNat (x : BitVec 64) : lowHalf x = BitVec.ofNat 32 (x.toNat % 2 ^ 32) := by
  rw [← lowHalf_toNat, BitVec.ofNat_toNat, BitVec.setWidth_eq]

theorem highHalf_eq_ofNat (x : BitVec 64) : highHalf x = BitVec.ofNat 32 (x.toNat / 2 ^ 32) := by
  rw [← highHalf_toNat, BitVec.ofNat_toNat, BitVec.setWidth_eq]

theorem ofHalves_eq_ofNat (hi lo : Word) :
    ofHalves hi lo = BitVec.ofNat 64 (hi.toNat * 2 ^ 32 + lo.toNat) := by
  rw [← ofHalves_toNat, BitVec.ofNat_toNat, BitVec.setWidth_eq]

@[simp] theorem lowHalf_ofHalves (hi lo : Word) : lowHalf (ofHalves hi lo) = lo := by
  apply BitVec.eq_of_toNat_eq
  rw [lowHalf_toNat, ofHalves_toNat]
  omega

@[simp] theorem highHalf_ofHalves (hi lo : Word) : highHalf (ofHalves hi lo) = hi := by
  apply BitVec.eq_of_toNat_eq
  rw [highHalf_toNat, ofHalves_toNat]
  omega

/-! ### Whose turn it is -/

theorem step_of_host_turn {s : State} (turn : nextTurn s = .host) :
    step s = hostStep (takeTurn s) := by
  simp only [step, turn]

theorem hostStep_xfer {s : State} {x : Txn} {rest : List HostLine}
    (line : s.script = .xfer x :: rest) :
    hostStep s = exec (decode x) { s with script := rest } := by
  simp only [hostStep, line]

theorem hostStep_poll {s : State} {n : Nat} {rest : List HostLine}
    (line : s.script = .poll n :: rest) :
    hostStep s = exec .rdStatus { s with script := afterPoll s n rest } := by
  simp only [hostStep, line]

theorem hostStep_nil {s : State} (line : s.script = []) : hostStep s = .next s := by
  simp only [hostStep, line]

theorem afterPoll_takeTurn (s : State) (n : Nat) (rest : List HostLine) :
    afterPoll (takeTurn s) n rest = afterPoll s n rest := by
  simp only [afterPoll, takeTurn_busy, takeTurn_done]

/-- The step after a load is the loaded transaction, in the state before the load. -/
theorem step_withFetchWord (s : State) (x : Txn) :
    step (s.withFetchWord 41 x.toNat) = exec (decode x) s := by
  have word : BitVec.ofNat 41 (x.toNat % 2 ^ 41) = x := by
    rw [Nat.mod_eq_of_lt x.isLt, BitVec.ofNat_toNat, BitVec.setWidth_eq]
  have turns : (s.withFetchWord 41 x.toNat).turns = .host :: s.turns := rfl
  have line : (s.withFetchWord 41 x.toNat).script = .xfer x :: s.script := by
    simp only [State.withFetchWord, word]
  rw [step_of_host_turn (nextTurn_cons _ _ _ turns), hostStep_xfer ((takeTurn_script _).trans line),
    takeTurn_cons _ _ _ turns]
  rfl

/-- Settles O5: the turn says whose step it is, and the first line what the host does. -/
theorem stepIsOneAgentsStep : Obligations.StepIsOneAgentsStep := by
  refine ⟨fun s x rest turn line => ?_, fun s n rest turn line => ?_, fun s turn line => ?_,
    fun s turn => ?_, fun s w turn => ?_, fun s turn => ?_, step_withFetchWord⟩
  · rw [step_of_host_turn turn, hostStep_xfer ((takeTurn_script _).trans line)]
  · rw [step_of_host_turn turn, hostStep_poll ((takeTurn_script _).trans line), afterPoll_takeTurn]
    rfl
  · rw [step_of_host_turn turn, hostStep_nil ((takeTurn_script _).trans line)]
  all_goals simp only [step, turn]

/-! ### The boundary: a command is accepted, refused or ignored -/

/-- A meaning that answers next is given by the state it answers. -/
theorem next_congr {s t : State} (h : s = t) :
    (.next s : Host.Outcome State Fault Refusal) = .next t :=
  congrArg _ h

/-- Settles O7: under these conditions the check finds no error. -/
theorem commandsAccepted : Obligations.CommandsAccepted := by
  intro s ig idle
  have accepted (c : Command) (checked : check c s = none) :=
    next_congr (ctrlWrite_accept idle c checked)
  refine ⟨fun hmin hmax => accepted .crcRef ?_, fun hmin hmax => accepted .crcFast ?_,
    fun hmin hmax lo hi => accepted .runBatch ?_, accepted .tblBuild rfl⟩
  · exact (check_eq_none _ s).2 ⟨fun _ => ⟨hmin, hmax⟩, nofun⟩
  · exact (check_eq_none _ s).2 ⟨fun _ => ⟨hmin, hmax⟩, nofun⟩
  · exact (check_eq_none _ s).2 ⟨fun _ => ⟨hmin, hmax⟩, fun _ => ⟨lo, hi⟩⟩

theorem checkLength_empty {s : State} (h : s.len.toNat = 0) : checkLength s = some .emptyInput := by
  simp [checkLength, h]

theorem checkLength_tooLong {s : State} (h : Config.maxBits < s.len.toNat) :
    checkLength s = some .tooLong := by
  simp [checkLength, h, Nat.ne_zero_of_lt h]

theorem checkLength_admitted {s : State} (h : LengthAdmitted s) : checkLength s = none := by
  obtain ⟨hmin, hmax⟩ := h
  simp [checkLength, Nat.ne_zero_of_lt hmin, Nat.not_lt.2 hmax]

/-- An error of the length is the first one found (44_host_interface.md R151). -/
theorem check_of_checkLength (c : Command) (reads : c ≠ .tblBuild) {s : State} {e : BoundaryError}
    (h : checkLength s = some e) : check c s = some e := by
  cases c with
  | tblBuild => exact absurd rfl reads
  | crcRef | crcFast => exact h
  | runBatch => simp [check, h]

theorem check_runBatch_iterations {s : State} (length : LengthAdmitted s)
    (out : s.iter.toNat < Config.iterMin ∨ Config.iterMax < s.iter.toNat) :
    check .runBatch s = some .iterationsOutOfRange := by
  simp [check, checkLength_admitted length, checkIterations, out]

theorem ctrlWrite_refuse {s : State} (idle : s.busy = false) {c : Command} {e : BoundaryError}
    (h : check c s = some e) : ctrlWrite c.code s = refuse e (forgetOutcome s) := by
  simp [ctrlWrite, idle, check_forgetOutcome, h]

/-- Settles O8: the check finds that error first, and refusing it sets the flags alone. -/
theorem badInputRefusedInOrder : Obligations.BadInputRefusedInOrder := by
  intro s ig idle
  have refused (c : Command) (e : BoundaryError) (h : check c s = some e) :=
    next_congr (ctrlWrite_refuse idle h)
  have length (e : BoundaryError) (h : checkLength s = some e) :
      ∀ i ∈ [Instr.crcRef ig, .crcFast ig, .runBatch ig],
        exec i s = .next (refuse e (forgetOutcome s)) := by
    rw [← List.forall_iff_forall_mem]
    exact ⟨refused .crcRef e (check_of_checkLength .crcRef nofun h),
      refused .crcFast e (check_of_checkLength .crcFast nofun h),
      refused .runBatch e (check_of_checkLength .runBatch nofun h)⟩
  exact ⟨fun empty => length .emptyInput (checkLength_empty empty),
    fun long => length .tooLong (checkLength_tooLong long),
    fun hmin hmax out =>
      refused .runBatch .iterationsOutOfRange (check_runBatch_iterations ⟨hmin, hmax⟩ out)⟩

/-- Settles O9: each of the sixteen is a `CTRL` write. -/
theorem busyCtrlWriteIgnored : Obligations.BusyCtrlWriteIgnored := by
  intro s ig busy
  have ignored (op : BitVec 4) := next_congr (ctrlWrite_busy op s busy)
  rw [← List.forall_iff_forall_mem]
  exact ⟨ignored 0x1#4, ignored 0x2#4, ignored 0x3#4, ignored 0x4#4, ignored 0x0#4, ignored 0x5#4,
    ignored 0x6#4, ignored 0x7#4, ignored 0x8#4, ignored 0x9#4, ignored 0xA#4, ignored 0xB#4,
    ignored 0xC#4, ignored 0xD#4, ignored 0xE#4, ignored 0xF#4⟩

/-! ### The writes -/

theorem exec_wrLen (v : Word) {s : State} (idle : s.busy = false) :
    exec (.wrLen v) s = .next { s with len := v.setWidth 7 } :=
  next_congr (whenIdle_idle _ s idle)

theorem exec_wrIterLo (v : Word) {s : State} (idle : s.busy = false) :
    exec (.wrIterLo v) s = .next { s with iter := ofHalves (highHalf s.iter) v } :=
  next_congr (whenIdle_idle _ s idle)

theorem exec_wrIterHi (v : Word) {s : State} (idle : s.busy = false) :
    exec (.wrIterHi v) s = .next { s with iter := ofHalves v (lowHalf s.iter) } :=
  next_congr (whenIdle_idle _ s idle)

/-- The three writes of the bit store are one write at three places. -/
theorem exec_wrData (v : Word) {n : Nat} {i : Instr}
    (hi : (n, i) ∈ [(0, Instr.wrData0 v), (1, .wrData1 v), (2, .wrData2 v)]) :
    n < 3 ∧ ∀ s, exec i s =
      .next (whenIdle (fun s => { s with bits := withDataWord s.bits n v }) s) := by
  simp only [List.mem_cons, Prod.mk.injEq, List.not_mem_nil, or_false] at hi
  rcases hi with ⟨rfl, rfl⟩ | ⟨rfl, rfl⟩ | ⟨rfl, rfl⟩ <;> exact ⟨by decide, fun _ => rfl⟩

/-- Settles O10: the narrow register keeps the number modulo 2^7. -/
theorem lenWriteKeepsSevenBits : Obligations.LenWriteKeepsSevenBits := by
  intro s v
  refine ⟨fun idle => ?_, fun busy => next_congr (whenIdle_busy _ s busy)⟩
  rw [exec_wrLen v idle, setWidth_eq_ofNat_mod]
  rfl

/-- Settles O11: the half that is kept is read off the old number. -/
theorem iterHalvesWrite : Obligations.IterHalvesWrite := by
  intro s v
  refine ⟨fun idle => ?_, fun idle => ?_,
    fun busy => ⟨next_congr (whenIdle_busy _ s busy), next_congr (whenIdle_busy _ s busy)⟩⟩
  · rw [exec_wrIterLo v idle, ofHalves_eq_ofNat, highHalf_toNat]
  · rw [exec_wrIterHi v idle, ofHalves_eq_ofNat, lowHalf_toNat]

/-- Settles O12: cell `32n + 31 - j` lies in group `n`, at the place of bit `j`. -/
theorem dataWriteSetsItsCells : Obligations.DataWriteSetsItsCells := by
  intro s v n i hi
  obtain ⟨hn, means⟩ := exec_wrData v hi
  rw [means]
  refine ⟨fun idle => ⟨withDataWord s.bits n v, next_congr (whenIdle_idle _ s idle), fun j hj => ?_,
    fun e he other => ?_⟩, fun busy => next_congr (whenIdle_busy _ s busy)⟩
  · rw [cellOf_withDataWord _ _ _ hn _ (by omega), if_pos (by omega),
      show 31 - (32 * n + 31 - j) % 32 = j by omega]
  · rw [cellOf_withDataWord _ _ _ hn _ he, if_neg other]

/-- Settles O13: unlike the other register writes, this meaning does not look at `BUSY`. -/
theorem tblIdxWriteAtAnyTime : Obligations.TblIdxWriteAtAnyTime := by
  intro s v
  have low := setWidth_eq_ofNat_mod v 8
  exact congrArg (fun x => Host.Outcome.next { s with tblIdx := x }) low

/-- Settles O14: nine meanings that answer the state itself. -/
theorem readOnlyAndReservedWritesIgnored : Obligations.ReadOnlyAndReservedWritesIgnored := by
  intro s v off
  rw [← List.forall_iff_forall_mem]
  exact ⟨rfl, rfl, rfl, rfl, rfl, rfl, rfl, rfl, rfl⟩

/-! ### The reads -/

/-- A read that delivers a word answers the state with that word, however spelled, returned. -/
theorem exec_read_eq {i : Instr} {s : State} {v w : Word} (means : exec i s = .next (deliver v s))
    (h : v = w) : exec i s = .next { s with returned := w :: s.returned } := by
  rw [means, h]
  rfl

theorem exec_rdData {n : Nat} {i : Instr}
    (hi : (n, i) ∈ [(0, Instr.rdData0), (1, .rdData1), (2, .rdData2)]) :
    n < 3 ∧ ∀ s, exec i s = .next (deliver (dataWord s.bits n) s) := by
  simp only [List.mem_cons, Prod.mk.injEq, List.not_mem_nil, or_false] at hi
  rcases hi with ⟨rfl, rfl⟩ | ⟨rfl, rfl⟩ | ⟨rfl, rfl⟩ <;> exact ⟨by decide, fun _ => rfl⟩

/-- Settles O17: each read delivers its register's word. -/
theorem inputRegisterReads : Obligations.InputRegisterReads := by
  intro s
  refine ⟨exec_read_eq rfl (BitVec.ofNat_toNat ..).symm, exec_read_eq rfl (lowHalf_eq_ofNat _),
    exec_read_eq rfl (highHalf_eq_ofNat _), exec_read_eq rfl (BitVec.ofNat_toNat ..).symm, ?_⟩
  intro n i hi
  obtain ⟨hn, means⟩ := exec_rdData hi
  exact ⟨_, means s, dataWord_bit s.bits n hn⟩

/-- Settles O18: the constant table's entry is `TblEntry`. -/
theorem tblDataReadsTheEntry : Obligations.TblDataReadsTheEntry := by
  intro s table
  refine exec_read_eq rfl ?_
  rw [tblDataWord, table, tableAt_canonTable, BitVec.ofNat_toNat]

/-- Settles O19: `BUSY` decides whether the word delivered is `RESULT` or a draw. -/
theorem crcReadIdleAndBusy : Obligations.CrcReadIdleAndBusy := by
  intro s
  constructor
  · intro idle
    refine exec_read_eq ?_ (BitVec.ofNat_toNat ..).symm
    simp [exec, execRdCrc, idle]
  · intro busy
    simp [exec, execRdCrc, busy, deliverDraw]

theorem nWorkersWord_eq_ofNat {s : State} (h : s.workers.length ≤ 65535) :
    nWorkersWord s = BitVec.ofNat 32 s.workers.length := by
  rw [nWorkersWord, State.numWorkers, ← BitVec.ofNat_toNat, BitVec.toNat_ofNat,
    Nat.mod_eq_of_lt (by omega)]

/-- Settles O20: the pool's size fits in the sixteen bits shown. -/
theorem elapsedAndPoolReads : Obligations.ElapsedAndPoolReads := fun _ =>
  ⟨exec_read_eq rfl (lowHalf_eq_ofNat _), exec_read_eq rfl (highHalf_eq_ofNat _),
    fun _ size => exec_read_eq rfl (nWorkersWord_eq_ofNat size)⟩

/-- Settles O21: four meanings that deliver 0. -/
theorem ctrlAndReservedReadsZero : Obligations.CtrlAndReservedReadsZero := by
  intro s off
  rw [← List.forall_iff_forall_mem]
  exact ⟨rfl, rfl, rfl, rfl⟩

/-- Bit `j` of `STATUS`: the flags in bits 0 to 2, `ERRCODE` from bit 4 (30_encoding.md R52). -/
theorem statusWord_bit (s : State) (j : Nat) :
    (statusWord s).getLsbD j =
      if j = 0 then s.busy else if j = 1 then s.done else if j = 2 then s.err
      else !decide (j < 4) && s.errCode.getLsbD (j - 4) := by
  simp only [statusWord, BitVec.getLsbD_or, BitVec.getLsbD_shiftLeft, BitVec.getLsbD_setWidth,
    BitVec.getLsbD_ofBool]
  split_ifs with h0 h1 h2
  · simp [h0]
  · simp [h1]
  · simp [h2]
  · have shifted1 : j - 1 ≠ 0 := by omega
    have shifted2 : j - 2 ≠ 0 := by omega
    by_cases code : j < 7
    · simp [h0, shifted1, shifted2, show j < 32 by omega, show j - 4 < 32 by omega]
    · simp [h0, shifted1, shifted2, BitVec.getLsbD_of_ge s.errCode (j - 4) (by omega)]

/-- Settles O16: outside its six bits the word has no bit of `ERRCODE` either. -/
theorem statusReadShowsTheFlags : Obligations.StatusReadShowsTheFlags := by
  intro s
  refine ⟨statusWord s, rfl, statusWord_bit s 0, statusWord_bit s 1, statusWord_bit s 2,
    fun j _ => ?_, statusWord_bit s 3, fun j hj => ?_⟩
  · rw [statusWord_bit, if_neg (by omega), if_neg (by omega), if_neg (by omega),
      Nat.add_sub_cancel_left]
    simp
  · rw [statusWord_bit, if_neg (by omega), if_neg (by omega), if_neg (by omega),
      BitVec.getLsbD_of_ge _ _ (by omega), Bool.and_false]

/-! ### Reading back what was written -/

/-- The reads of the seven writable registers. -/
def inputReads : List Instr :=
  [.rdLen, .rdIterLo, .rdIterHi, .rdData0, .rdData1, .rdData2, .rdTblIdx]

/-- The word such a read delivers (44_host_interface.md R143). -/
def inputWord (s : State) : Instr → Word
  | .rdLen => s.len.setWidth 32
  | .rdIterLo => lowHalf s.iter
  | .rdIterHi => highHalf s.iter
  | .rdData0 => dataWord s.bits 0
  | .rdData1 => dataWord s.bits 1
  | .rdData2 => dataWord s.bits 2
  | .rdTblIdx => s.tblIdx.setWidth 32
  | _ => 0#32

theorem exec_inputRead (s : State) :
    ∀ r ∈ inputReads, exec r s = .next (deliver (inputWord s r) s) := by
  rw [← List.forall_iff_forall_mem]
  exact ⟨rfl, rfl, rfl, rfl, rfl, rfl, rfl⟩

/-- From `s` to `t` the register read by `own` has become `v`; the other six and the values
returned are as before. -/
structure RegisterBecomes (s t : State) (own : Instr) (v : Word) : Prop where
  mem : own ∈ inputReads
  returned : t.returned = s.returned
  word : ∀ r ∈ inputReads, inputWord t r = if r = own then v else inputWord s r

theorem RegisterBecomes.reads {s t : State} {own : Instr} {v : Word}
    (h : RegisterBecomes s t own v) :
    (∃ u : State, exec own t = .next u ∧ u.returned = v :: s.returned) ∧
    ∀ r ∈ inputReads, r ≠ own → ∃ u u' : State, exec r t = .next u ∧ exec r s = .next u' ∧
      u.returned = u'.returned := by
  constructor
  · refine ⟨_, exec_inputRead t own h.mem, ?_⟩
    rw [deliver_returned, h.word own h.mem, if_pos rfl, h.returned]
  · intro r hr other
    refine ⟨_, _, exec_inputRead t r hr, exec_inputRead s r hr, ?_⟩
    rw [deliver_returned, deliver_returned, h.word r hr, if_neg other, h.returned]

theorem registerBecomes_len (s : State) (v : Word) :
    RegisterBecomes s { s with len := v.setWidth 7 } .rdLen (BitVec.ofNat 32 (v.toNat % 128)) where
  mem := by decide
  returned := rfl
  word := by
    have own := setWidth_narrowed v 7
    simp [inputReads, inputWord, own]

theorem registerBecomes_tblIdx (s : State) (v : Word) :
    RegisterBecomes s { s with tblIdx := v.setWidth 8 } .rdTblIdx
      (BitVec.ofNat 32 (v.toNat % 256)) where
  mem := by decide
  returned := rfl
  word := by
    have own := setWidth_narrowed v 8
    simp [inputReads, inputWord, own]

theorem registerBecomes_iterLo (s : State) (v : Word) :
    RegisterBecomes s { s with iter := ofHalves (highHalf s.iter) v } .rdIterLo v where
  mem := by decide
  returned := rfl
  word := by simp [inputReads, inputWord]

theorem registerBecomes_iterHi (s : State) (v : Word) :
    RegisterBecomes s { s with iter := ofHalves v (lowHalf s.iter) } .rdIterHi v where
  mem := by decide
  returned := rfl
  word := by simp [inputReads, inputWord]

theorem registerBecomes_data (s : State) (v : Word) {n : Nat} {own : Instr}
    (h : (n, own) ∈ [(0, Instr.rdData0), (1, .rdData1), (2, .rdData2)]) :
    RegisterBecomes s { s with bits := withDataWord s.bits n v } own v := by
  simp only [List.mem_cons, Prod.mk.injEq, List.not_mem_nil, or_false] at h
  rcases h with ⟨rfl, rfl⟩ | ⟨rfl, rfl⟩ | ⟨rfl, rfl⟩
  all_goals exact ⟨by decide, rfl, by simp [inputReads, inputWord, dataWord_withDataWord]⟩

/-- Settles O15: each of the seven writes changes the word of its own register alone. -/
theorem readBackAfterWrite : Obligations.ReadBackAfterWrite := by
  intro s v idle
  rw [← List.forall_iff_forall_mem]
  exact ⟨⟨_, exec_wrLen v idle, (registerBecomes_len s v).reads⟩,
    ⟨_, exec_wrIterLo v idle, (registerBecomes_iterLo s v).reads⟩,
    ⟨_, exec_wrIterHi v idle, (registerBecomes_iterHi s v).reads⟩,
    ⟨_, next_congr (whenIdle_idle _ s idle), (registerBecomes_data s v (by simp)).reads⟩,
    ⟨_, next_congr (whenIdle_idle _ s idle), (registerBecomes_data s v (by simp)).reads⟩,
    ⟨_, next_congr (whenIdle_idle _ s idle), (registerBecomes_data s v (by simp)).reads⟩,
    ⟨_, rfl, (registerBecomes_tblIdx s v).reads⟩⟩

end Sys2Proof.Machine
